-- ==== Sys2Proof/Word.lean ====
section
/-! DEFINITION. The two word types of the machine: bytes and 16-bit words (00_scope.md R6, R7). -/

namespace Sys2Proof

/-- An 8-bit register, memory cell or immediate (R6 `XLEN`). -/
abbrev Byte := BitVec 8

/-- A 16-bit register, address or immediate (R6 `ALEN`). -/
abbrev Word := BitVec 16

end Sys2Proof
end

