-- ==== Sys2Proof/Machine/Bits.lean ====
section
/-! DEFINITION. Bit fields, byte order and sign extension (00_scope.md R7, R8, R10; 10_state.md R23). -/

namespace Sys2Proof.Machine

/-- `v[15:8]` (R7). -/
def hiByte (v : Word) : Byte := v.extractLsb' 8 8

/-- `v[7:0]` (R7). -/
def loByte (v : Word) : Byte := v.extractLsb' 0 8

/-- `hi ++ lo` (R7): the first-named byte is the high one (R23). -/
def mkWord (hi lo : Byte) : Word := hi ++ lo

/-- `sext_16` (R8): two's complement extension of a byte. -/
def sext16 (b : Byte) : Word := b.signExtend 16

/-- `b[i]` (R7). -/
def bitAt (b : Byte) (i : Nat) : Bool := b.getLsbD i

/-- `b | (1 << i)`. -/
def withBit (b : Byte) (i : Nat) : Byte := b ||| (1#8 <<< i)

/-- `b & ~(1 << i)`. -/
def withoutBit (b : Byte) (i : Nat) : Byte := b &&& ~~~(1#8 <<< i)

/-- `b[3:0]` as a number (R7). -/
def lowNibble (b : Byte) : Nat := b.toNat % 16

/-- The address `0xFF00 + n` of the page-0xFF forms (30_encoding.md R148); it never leaves the page. -/
def pageFF (n : Byte) : Word := mkWord 0xFF#8 n

end Sys2Proof.Machine
end

