-- ==== Sys2Proof/Syntax.lean ====
section
/-! DEFINITION. The instruction set as syntax: the operand selectors (30_encoding.md R143 to R147), one constructor per row of
spec/opcode_table.json (R150 to R152, R161), and the families: each maps its operands to the constructor of its row. -/

namespace Sys2Proof

/-- The registers of the 3-bit selector `r` (R143), index 6 apart. -/
inductive Reg8 where
  | b
  | c
  | d
  | e
  | h
  | l
  | a
  deriving DecidableEq, Repr

/-- The 3-bit selector itself: index 6 is the byte at `HL` (R143). -/
inductive Operand8 where
  | reg (r : Reg8)
  | memHL
  deriving DecidableEq, Repr

/-- The pair table `rr` (R144). -/
inductive Pair where
  | bc
  | de
  | hl
  | sp
  deriving DecidableEq, Repr

/-- The pair table `qq` of `PUSH` and `POP` (R144). -/
inductive StackPair where
  | bc
  | de
  | hl
  | af
  deriving DecidableEq, Repr

/-- The conditions `cc` (R145). -/
inductive Cond where
  | nz
  | z
  | nc
  | c
  deriving DecidableEq, Repr

/-- The accumulator operations (R146). -/
inductive AluOp where
  | add
  | adc
  | sub
  | sbc
  | and
  | xor
  | or
  | cp
  deriving DecidableEq, Repr

/-- The rotates and shifts of the secondary page (R147). -/
inductive RotOp where
  | rlc
  | rrc
  | rl
  | rr
  | sla
  | sra
  | swap
  | srl
  deriving DecidableEq, Repr

/-- One constructor per row of spec/opcode_table.json: first the rows with operand bytes, then the others, each group in the
table's order. A constructor's name spells its row: `ldB_MemHL` is
`LD B,(HL)`, `addA_C` is `ADD A,C`, `bit3_E` is `BIT 3,E`, `jpNZ` is `JP NZ,a16`. `stop` keeps the byte the hardware fetches and
ignores (R153); `prefixCB` is the row of the prefix itself (R315), whose words are those of the secondary page's rows. -/
inductive Instr where
  | ldBC_d16 (nn : Word)
  | ldB_d8 (n : Byte)
  | ldMemA16_SP (nn : Word)
  | ldC_d8 (n : Byte)
  | stop (ignored : Byte)
  | ldDE_d16 (nn : Word)
  | ldD_d8 (n : Byte)
  | jr (e : Byte)
  | ldE_d8 (n : Byte)
  | jrNZ (e : Byte)
  | ldHL_d16 (nn : Word)
  | ldH_d8 (n : Byte)
  | jrZ (e : Byte)
  | ldL_d8 (n : Byte)
  | jrNC (e : Byte)
  | ldSP_d16 (nn : Word)
  | ldMemHL_d8 (n : Byte)
  | jrC (e : Byte)
  | ldA_d8 (n : Byte)
  | jpNZ (nn : Word)
  | jp (nn : Word)
  | callNZ (nn : Word)
  | addA_d8 (n : Byte)
  | jpZ (nn : Word)
  | prefixCB (op2 : Byte)
  | callZ (nn : Word)
  | call (nn : Word)
  | adcA_d8 (n : Byte)
  | jpNC (nn : Word)
  | callNC (nn : Word)
  | subA_d8 (n : Byte)
  | jpC (nn : Word)
  | callC (nn : Word)
  | sbcA_d8 (n : Byte)
  | ldhMemA8_A (n : Byte)
  | andA_d8 (n : Byte)
  | addSP_r8 (e : Byte)
  | ldMemA16_A (nn : Word)
  | xorA_d8 (n : Byte)
  | ldhA_MemA8 (n : Byte)
  | orA_d8 (n : Byte)
  | ldHL_SPr8 (e : Byte)
  | ldA_MemA16 (nn : Word)
  | cpA_d8 (n : Byte)
  | nop
  | ldMemBC_A
  | incBC
  | incB
  | decB
  | rlca
  | addHL_BC
  | ldA_MemBC
  | decBC
  | incC
  | decC
  | rrca
  | ldMemDE_A
  | incDE
  | incD
  | decD
  | rla
  | addHL_DE
  | ldA_MemDE
  | decDE
  | incE
  | decE
  | rra
  | ldMemHLI_A
  | incHL
  | incH
  | decH
  | daa
  | addHL_HL
  | ldA_MemHLI
  | decHL
  | incL
  | decL
  | cpl
  | ldMemHLD_A
  | incSP
  | incMemHL
  | decMemHL
  | scf
  | addHL_SP
  | ldA_MemHLD
  | decSP
  | incA
  | decA
  | ccf
  | ldB_B
  | ldB_C
  | ldB_D
  | ldB_E
  | ldB_H
  | ldB_L
  | ldB_MemHL
  | ldB_A
  | ldC_B
  | ldC_C
  | ldC_D
  | ldC_E
  | ldC_H
  | ldC_L
  | ldC_MemHL
  | ldC_A
  | ldD_B
  | ldD_C
  | ldD_D
  | ldD_E
  | ldD_H
  | ldD_L
  | ldD_MemHL
  | ldD_A
  | ldE_B
  | ldE_C
  | ldE_D
  | ldE_E
  | ldE_H
  | ldE_L
  | ldE_MemHL
  | ldE_A
  | ldH_B
  | ldH_C
  | ldH_D
  | ldH_E
  | ldH_H
  | ldH_L
  | ldH_MemHL
  | ldH_A
  | ldL_B
  | ldL_C
  | ldL_D
  | ldL_E
  | ldL_H
  | ldL_L
  | ldL_MemHL
  | ldL_A
  | ldMemHL_B
  | ldMemHL_C
  | ldMemHL_D
  | ldMemHL_E
  | ldMemHL_H
  | ldMemHL_L
  | halt
  | ldMemHL_A
  | ldA_B
  | ldA_C
  | ldA_D
  | ldA_E
  | ldA_H
  | ldA_L
  | ldA_MemHL
  | ldA_A
  | addA_B
  | addA_C
  | addA_D
  | addA_E
  | addA_H
  | addA_L
  | addA_MemHL
  | addA_A
  | adcA_B
  | adcA_C
  | adcA_D
  | adcA_E
  | adcA_H
  | adcA_L
  | adcA_MemHL
  | adcA_A
  | subA_B
  | subA_C
  | subA_D
  | subA_E
  | subA_H
  | subA_L
  | subA_MemHL
  | subA_A
  | sbcA_B
  | sbcA_C
  | sbcA_D
  | sbcA_E
  | sbcA_H
  | sbcA_L
  | sbcA_MemHL
  | sbcA_A
  | andA_B
  | andA_C
  | andA_D
  | andA_E
  | andA_H
  | andA_L
  | andA_MemHL
  | andA_A
  | xorA_B
  | xorA_C
  | xorA_D
  | xorA_E
  | xorA_H
  | xorA_L
  | xorA_MemHL
  | xorA_A
  | orA_B
  | orA_C
  | orA_D
  | orA_E
  | orA_H
  | orA_L
  | orA_MemHL
  | orA_A
  | cpA_B
  | cpA_C
  | cpA_D
  | cpA_E
  | cpA_H
  | cpA_L
  | cpA_MemHL
  | cpA_A
  | retNZ
  | popBC
  | pushBC
  | rst00
  | retZ
  | ret
  | rst08
  | retNC
  | popDE
  | illegalD3
  | pushDE
  | rst10
  | retC
  | reti
  | illegalDB
  | illegalDD
  | rst18
  | popHL
  | ldMemC_A
  | illegalE3
  | illegalE4
  | pushHL
  | rst20
  | jpHL
  | illegalEB
  | illegalEC
  | illegalED
  | rst28
  | popAF
  | ldA_MemC
  | di
  | illegalF4
  | pushAF
  | rst30
  | ldSP_HL
  | ei
  | illegalFC
  | illegalFD
  | rst38
  | rlcB
  | rlcC
  | rlcD
  | rlcE
  | rlcH
  | rlcL
  | rlcMemHL
  | rlcA
  | rrcB
  | rrcC
  | rrcD
  | rrcE
  | rrcH
  | rrcL
  | rrcMemHL
  | rrcA
  | rlB
  | rlC
  | rlD
  | rlE
  | rlH
  | rlL
  | rlMemHL
  | rlA
  | rrB
  | rrC
  | rrD
  | rrE
  | rrH
  | rrL
  | rrMemHL
  | rrA
  | slaB
  | slaC
  | slaD
  | slaE
  | slaH
  | slaL
  | slaMemHL
  | slaA
  | sraB
  | sraC
  | sraD
  | sraE
  | sraH
  | sraL
  | sraMemHL
  | sraA
  | swapB
  | swapC
  | swapD
  | swapE
  | swapH
  | swapL
  | swapMemHL
  | swapA
  | srlB
  | srlC
  | srlD
  | srlE
  | srlH
  | srlL
  | srlMemHL
  | srlA
  | bit0_B
  | bit0_C
  | bit0_D
  | bit0_E
  | bit0_H
  | bit0_L
  | bit0_MemHL
  | bit0_A
  | bit1_B
  | bit1_C
  | bit1_D
  | bit1_E
  | bit1_H
  | bit1_L
  | bit1_MemHL
  | bit1_A
  | bit2_B
  | bit2_C
  | bit2_D
  | bit2_E
  | bit2_H
  | bit2_L
  | bit2_MemHL
  | bit2_A
  | bit3_B
  | bit3_C
  | bit3_D
  | bit3_E
  | bit3_H
  | bit3_L
  | bit3_MemHL
  | bit3_A
  | bit4_B
  | bit4_C
  | bit4_D
  | bit4_E
  | bit4_H
  | bit4_L
  | bit4_MemHL
  | bit4_A
  | bit5_B
  | bit5_C
  | bit5_D
  | bit5_E
  | bit5_H
  | bit5_L
  | bit5_MemHL
  | bit5_A
  | bit6_B
  | bit6_C
  | bit6_D
  | bit6_E
  | bit6_H
  | bit6_L
  | bit6_MemHL
  | bit6_A
  | bit7_B
  | bit7_C
  | bit7_D
  | bit7_E
  | bit7_H
  | bit7_L
  | bit7_MemHL
  | bit7_A
  | res0_B
  | res0_C
  | res0_D
  | res0_E
  | res0_H
  | res0_L
  | res0_MemHL
  | res0_A
  | res1_B
  | res1_C
  | res1_D
  | res1_E
  | res1_H
  | res1_L
  | res1_MemHL
  | res1_A
  | res2_B
  | res2_C
  | res2_D
  | res2_E
  | res2_H
  | res2_L
  | res2_MemHL
  | res2_A
  | res3_B
  | res3_C
  | res3_D
  | res3_E
  | res3_H
  | res3_L
  | res3_MemHL
  | res3_A
  | res4_B
  | res4_C
  | res4_D
  | res4_E
  | res4_H
  | res4_L
  | res4_MemHL
  | res4_A
  | res5_B
  | res5_C
  | res5_D
  | res5_E
  | res5_H
  | res5_L
  | res5_MemHL
  | res5_A
  | res6_B
  | res6_C
  | res6_D
  | res6_E
  | res6_H
  | res6_L
  | res6_MemHL
  | res6_A
  | res7_B
  | res7_C
  | res7_D
  | res7_E
  | res7_H
  | res7_L
  | res7_MemHL
  | res7_A
  | set0_B
  | set0_C
  | set0_D
  | set0_E
  | set0_H
  | set0_L
  | set0_MemHL
  | set0_A
  | set1_B
  | set1_C
  | set1_D
  | set1_E
  | set1_H
  | set1_L
  | set1_MemHL
  | set1_A
  | set2_B
  | set2_C
  | set2_D
  | set2_E
  | set2_H
  | set2_L
  | set2_MemHL
  | set2_A
  | set3_B
  | set3_C
  | set3_D
  | set3_E
  | set3_H
  | set3_L
  | set3_MemHL
  | set3_A
  | set4_B
  | set4_C
  | set4_D
  | set4_E
  | set4_H
  | set4_L
  | set4_MemHL
  | set4_A
  | set5_B
  | set5_C
  | set5_D
  | set5_E
  | set5_H
  | set5_L
  | set5_MemHL
  | set5_A
  | set6_B
  | set6_C
  | set6_D
  | set6_E
  | set6_H
  | set6_L
  | set6_MemHL
  | set6_A
  | set7_B
  | set7_C
  | set7_D
  | set7_E
  | set7_H
  | set7_L
  | set7_MemHL
  | set7_A
  deriving DecidableEq, Repr

namespace Instr

/-- `LD r,r'` (40_load8.md R171). -/
def loadReg (dst src : Reg8) : Instr :=
  match dst, src with
  | .b, .b => .ldB_B
  | .b, .c => .ldB_C
  | .b, .d => .ldB_D
  | .b, .e => .ldB_E
  | .b, .h => .ldB_H
  | .b, .l => .ldB_L
  | .b, .a => .ldB_A
  | .c, .b => .ldC_B
  | .c, .c => .ldC_C
  | .c, .d => .ldC_D
  | .c, .e => .ldC_E
  | .c, .h => .ldC_H
  | .c, .l => .ldC_L
  | .c, .a => .ldC_A
  | .d, .b => .ldD_B
  | .d, .c => .ldD_C
  | .d, .d => .ldD_D
  | .d, .e => .ldD_E
  | .d, .h => .ldD_H
  | .d, .l => .ldD_L
  | .d, .a => .ldD_A
  | .e, .b => .ldE_B
  | .e, .c => .ldE_C
  | .e, .d => .ldE_D
  | .e, .e => .ldE_E
  | .e, .h => .ldE_H
  | .e, .l => .ldE_L
  | .e, .a => .ldE_A
  | .h, .b => .ldH_B
  | .h, .c => .ldH_C
  | .h, .d => .ldH_D
  | .h, .e => .ldH_E
  | .h, .h => .ldH_H
  | .h, .l => .ldH_L
  | .h, .a => .ldH_A
  | .l, .b => .ldL_B
  | .l, .c => .ldL_C
  | .l, .d => .ldL_D
  | .l, .e => .ldL_E
  | .l, .h => .ldL_H
  | .l, .l => .ldL_L
  | .l, .a => .ldL_A
  | .a, .b => .ldA_B
  | .a, .c => .ldA_C
  | .a, .d => .ldA_D
  | .a, .e => .ldA_E
  | .a, .h => .ldA_H
  | .a, .l => .ldA_L
  | .a, .a => .ldA_A

/-- `LD r,d8` (R172). -/
def loadImm (dst : Reg8) (n : Byte) : Instr :=
  match dst with
  | .b => .ldB_d8 n
  | .c => .ldC_d8 n
  | .d => .ldD_d8 n
  | .e => .ldE_d8 n
  | .h => .ldH_d8 n
  | .l => .ldL_d8 n
  | .a => .ldA_d8 n

/-- `LD r,(HL)` (R173). -/
def loadFromHL (dst : Reg8) : Instr :=
  match dst with
  | .b => .ldB_MemHL
  | .c => .ldC_MemHL
  | .d => .ldD_MemHL
  | .e => .ldE_MemHL
  | .h => .ldH_MemHL
  | .l => .ldL_MemHL
  | .a => .ldA_MemHL

/-- `LD (HL),r` (R174). -/
def storeToHL (src : Reg8) : Instr :=
  match src with
  | .b => .ldMemHL_B
  | .c => .ldMemHL_C
  | .d => .ldMemHL_D
  | .e => .ldMemHL_E
  | .h => .ldMemHL_H
  | .l => .ldMemHL_L
  | .a => .ldMemHL_A

/-- `LD rr,d16` (41_load16_stack.md R201). -/
def loadPair (p : Pair) (nn : Word) : Instr :=
  match p with
  | .bc => .ldBC_d16 nn
  | .de => .ldDE_d16 nn
  | .hl => .ldHL_d16 nn
  | .sp => .ldSP_d16 nn

/-- `PUSH qq` (R205). -/
def push (q : StackPair) : Instr :=
  match q with
  | .bc => .pushBC
  | .de => .pushDE
  | .hl => .pushHL
  | .af => .pushAF

/-- `POP qq`, `POP AF` (R206, R207). -/
def pop (q : StackPair) : Instr :=
  match q with
  | .bc => .popBC
  | .de => .popDE
  | .hl => .popHL
  | .af => .popAF

/-- The accumulator operations with `r` or `(HL)` (42_alu8.md R215 to R223). -/
def aluOperand (op : AluOp) (o : Operand8) : Instr :=
  match op, o with
  | .add, .reg .b => .addA_B
  | .add, .reg .c => .addA_C
  | .add, .reg .d => .addA_D
  | .add, .reg .e => .addA_E
  | .add, .reg .h => .addA_H
  | .add, .reg .l => .addA_L
  | .add, .memHL => .addA_MemHL
  | .add, .reg .a => .addA_A
  | .adc, .reg .b => .adcA_B
  | .adc, .reg .c => .adcA_C
  | .adc, .reg .d => .adcA_D
  | .adc, .reg .e => .adcA_E
  | .adc, .reg .h => .adcA_H
  | .adc, .reg .l => .adcA_L
  | .adc, .memHL => .adcA_MemHL
  | .adc, .reg .a => .adcA_A
  | .sub, .reg .b => .subA_B
  | .sub, .reg .c => .subA_C
  | .sub, .reg .d => .subA_D
  | .sub, .reg .e => .subA_E
  | .sub, .reg .h => .subA_H
  | .sub, .reg .l => .subA_L
  | .sub, .memHL => .subA_MemHL
  | .sub, .reg .a => .subA_A
  | .sbc, .reg .b => .sbcA_B
  | .sbc, .reg .c => .sbcA_C
  | .sbc, .reg .d => .sbcA_D
  | .sbc, .reg .e => .sbcA_E
  | .sbc, .reg .h => .sbcA_H
  | .sbc, .reg .l => .sbcA_L
  | .sbc, .memHL => .sbcA_MemHL
  | .sbc, .reg .a => .sbcA_A
  | .and, .reg .b => .andA_B
  | .and, .reg .c => .andA_C
  | .and, .reg .d => .andA_D
  | .and, .reg .e => .andA_E
  | .and, .reg .h => .andA_H
  | .and, .reg .l => .andA_L
  | .and, .memHL => .andA_MemHL
  | .and, .reg .a => .andA_A
  | .xor, .reg .b => .xorA_B
  | .xor, .reg .c => .xorA_C
  | .xor, .reg .d => .xorA_D
  | .xor, .reg .e => .xorA_E
  | .xor, .reg .h => .xorA_H
  | .xor, .reg .l => .xorA_L
  | .xor, .memHL => .xorA_MemHL
  | .xor, .reg .a => .xorA_A
  | .or, .reg .b => .orA_B
  | .or, .reg .c => .orA_C
  | .or, .reg .d => .orA_D
  | .or, .reg .e => .orA_E
  | .or, .reg .h => .orA_H
  | .or, .reg .l => .orA_L
  | .or, .memHL => .orA_MemHL
  | .or, .reg .a => .orA_A
  | .cp, .reg .b => .cpA_B
  | .cp, .reg .c => .cpA_C
  | .cp, .reg .d => .cpA_D
  | .cp, .reg .e => .cpA_E
  | .cp, .reg .h => .cpA_H
  | .cp, .reg .l => .cpA_L
  | .cp, .memHL => .cpA_MemHL
  | .cp, .reg .a => .cpA_A

/-- The accumulator operations with `d8` (R215 to R223). -/
def aluImm (op : AluOp) (n : Byte) : Instr :=
  match op with
  | .add => .addA_d8 n
  | .adc => .adcA_d8 n
  | .sub => .subA_d8 n
  | .sbc => .sbcA_d8 n
  | .and => .andA_d8 n
  | .xor => .xorA_d8 n
  | .or => .orA_d8 n
  | .cp => .cpA_d8 n

/-- `INC r`, `INC (HL)` (R224, R225). -/
def inc (o : Operand8) : Instr :=
  match o with
  | .reg .b => .incB
  | .reg .c => .incC
  | .reg .d => .incD
  | .reg .e => .incE
  | .reg .h => .incH
  | .reg .l => .incL
  | .memHL => .incMemHL
  | .reg .a => .incA

/-- `DEC r`, `DEC (HL)` (R226, R227). -/
def dec (o : Operand8) : Instr :=
  match o with
  | .reg .b => .decB
  | .reg .c => .decC
  | .reg .d => .decD
  | .reg .e => .decE
  | .reg .h => .decH
  | .reg .l => .decL
  | .memHL => .decMemHL
  | .reg .a => .decA

/-- `ADD HL,rr` (43_alu16.md R251). -/
def addHl (p : Pair) : Instr :=
  match p with
  | .bc => .addHL_BC
  | .de => .addHL_DE
  | .hl => .addHL_HL
  | .sp => .addHL_SP

/-- `INC rr` (R252). -/
def incPair (p : Pair) : Instr :=
  match p with
  | .bc => .incBC
  | .de => .incDE
  | .hl => .incHL
  | .sp => .incSP

/-- `DEC rr` (R253). -/
def decPair (p : Pair) : Instr :=
  match p with
  | .bc => .decBC
  | .de => .decDE
  | .hl => .decHL
  | .sp => .decSP

/-- `JP cc,a16` (45_control.md R292). -/
def jumpCond (cc : Cond) (nn : Word) : Instr :=
  match cc with
  | .nz => .jpNZ nn
  | .z => .jpZ nn
  | .nc => .jpNC nn
  | .c => .jpC nn

/-- `JR cc,r8` (R295). -/
def jumpRelCond (cc : Cond) (e : Byte) : Instr :=
  match cc with
  | .nz => .jrNZ e
  | .z => .jrZ e
  | .nc => .jrNC e
  | .c => .jrC e

/-- `CALL cc,a16` (R297). -/
def callCond (cc : Cond) (nn : Word) : Instr :=
  match cc with
  | .nz => .callNZ nn
  | .z => .callZ nn
  | .nc => .callNC nn
  | .c => .callC nn

/-- `RET cc` (R299). -/
def retCond (cc : Cond) : Instr :=
  match cc with
  | .nz => .retNZ
  | .z => .retZ
  | .nc => .retNC
  | .c => .retC

/-- `RST t` by `ttt` (R302, 30_encoding.md R149). -/
def rst (t : Fin 8) : Instr :=
  match t with
  | 0 => .rst00
  | 1 => .rst08
  | 2 => .rst10
  | 3 => .rst18
  | 4 => .rst20
  | 5 => .rst28
  | 6 => .rst30
  | 7 => .rst38

/-- The rotates, shifts and `SWAP` of the secondary page (44_rotate_shift_bit.md R266 to R273). -/
def rotate (op : RotOp) (o : Operand8) : Instr :=
  match op, o with
  | .rlc, .reg .b => .rlcB
  | .rlc, .reg .c => .rlcC
  | .rlc, .reg .d => .rlcD
  | .rlc, .reg .e => .rlcE
  | .rlc, .reg .h => .rlcH
  | .rlc, .reg .l => .rlcL
  | .rlc, .memHL => .rlcMemHL
  | .rlc, .reg .a => .rlcA
  | .rrc, .reg .b => .rrcB
  | .rrc, .reg .c => .rrcC
  | .rrc, .reg .d => .rrcD
  | .rrc, .reg .e => .rrcE
  | .rrc, .reg .h => .rrcH
  | .rrc, .reg .l => .rrcL
  | .rrc, .memHL => .rrcMemHL
  | .rrc, .reg .a => .rrcA
  | .rl, .reg .b => .rlB
  | .rl, .reg .c => .rlC
  | .rl, .reg .d => .rlD
  | .rl, .reg .e => .rlE
  | .rl, .reg .h => .rlH
  | .rl, .reg .l => .rlL
  | .rl, .memHL => .rlMemHL
  | .rl, .reg .a => .rlA
  | .rr, .reg .b => .rrB
  | .rr, .reg .c => .rrC
  | .rr, .reg .d => .rrD
  | .rr, .reg .e => .rrE
  | .rr, .reg .h => .rrH
  | .rr, .reg .l => .rrL
  | .rr, .memHL => .rrMemHL
  | .rr, .reg .a => .rrA
  | .sla, .reg .b => .slaB
  | .sla, .reg .c => .slaC
  | .sla, .reg .d => .slaD
  | .sla, .reg .e => .slaE
  | .sla, .reg .h => .slaH
  | .sla, .reg .l => .slaL
  | .sla, .memHL => .slaMemHL
  | .sla, .reg .a => .slaA
  | .sra, .reg .b => .sraB
  | .sra, .reg .c => .sraC
  | .sra, .reg .d => .sraD
  | .sra, .reg .e => .sraE
  | .sra, .reg .h => .sraH
  | .sra, .reg .l => .sraL
  | .sra, .memHL => .sraMemHL
  | .sra, .reg .a => .sraA
  | .swap, .reg .b => .swapB
  | .swap, .reg .c => .swapC
  | .swap, .reg .d => .swapD
  | .swap, .reg .e => .swapE
  | .swap, .reg .h => .swapH
  | .swap, .reg .l => .swapL
  | .swap, .memHL => .swapMemHL
  | .swap, .reg .a => .swapA
  | .srl, .reg .b => .srlB
  | .srl, .reg .c => .srlC
  | .srl, .reg .d => .srlD
  | .srl, .reg .e => .srlE
  | .srl, .reg .h => .srlH
  | .srl, .reg .l => .srlL
  | .srl, .memHL => .srlMemHL
  | .srl, .reg .a => .srlA

/-- `BIT b,x` (R274). -/
def bit (b : Fin 8) (o : Operand8) : Instr :=
  match b, o with
  | 0, .reg .b => .bit0_B
  | 0, .reg .c => .bit0_C
  | 0, .reg .d => .bit0_D
  | 0, .reg .e => .bit0_E
  | 0, .reg .h => .bit0_H
  | 0, .reg .l => .bit0_L
  | 0, .memHL => .bit0_MemHL
  | 0, .reg .a => .bit0_A
  | 1, .reg .b => .bit1_B
  | 1, .reg .c => .bit1_C
  | 1, .reg .d => .bit1_D
  | 1, .reg .e => .bit1_E
  | 1, .reg .h => .bit1_H
  | 1, .reg .l => .bit1_L
  | 1, .memHL => .bit1_MemHL
  | 1, .reg .a => .bit1_A
  | 2, .reg .b => .bit2_B
  | 2, .reg .c => .bit2_C
  | 2, .reg .d => .bit2_D
  | 2, .reg .e => .bit2_E
  | 2, .reg .h => .bit2_H
  | 2, .reg .l => .bit2_L
  | 2, .memHL => .bit2_MemHL
  | 2, .reg .a => .bit2_A
  | 3, .reg .b => .bit3_B
  | 3, .reg .c => .bit3_C
  | 3, .reg .d => .bit3_D
  | 3, .reg .e => .bit3_E
  | 3, .reg .h => .bit3_H
  | 3, .reg .l => .bit3_L
  | 3, .memHL => .bit3_MemHL
  | 3, .reg .a => .bit3_A
  | 4, .reg .b => .bit4_B
  | 4, .reg .c => .bit4_C
  | 4, .reg .d => .bit4_D
  | 4, .reg .e => .bit4_E
  | 4, .reg .h => .bit4_H
  | 4, .reg .l => .bit4_L
  | 4, .memHL => .bit4_MemHL
  | 4, .reg .a => .bit4_A
  | 5, .reg .b => .bit5_B
  | 5, .reg .c => .bit5_C
  | 5, .reg .d => .bit5_D
  | 5, .reg .e => .bit5_E
  | 5, .reg .h => .bit5_H
  | 5, .reg .l => .bit5_L
  | 5, .memHL => .bit5_MemHL
  | 5, .reg .a => .bit5_A
  | 6, .reg .b => .bit6_B
  | 6, .reg .c => .bit6_C
  | 6, .reg .d => .bit6_D
  | 6, .reg .e => .bit6_E
  | 6, .reg .h => .bit6_H
  | 6, .reg .l => .bit6_L
  | 6, .memHL => .bit6_MemHL
  | 6, .reg .a => .bit6_A
  | 7, .reg .b => .bit7_B
  | 7, .reg .c => .bit7_C
  | 7, .reg .d => .bit7_D
  | 7, .reg .e => .bit7_E
  | 7, .reg .h => .bit7_H
  | 7, .reg .l => .bit7_L
  | 7, .memHL => .bit7_MemHL
  | 7, .reg .a => .bit7_A

/-- `RES b,x` (R275). -/
def res (b : Fin 8) (o : Operand8) : Instr :=
  match b, o with
  | 0, .reg .b => .res0_B
  | 0, .reg .c => .res0_C
  | 0, .reg .d => .res0_D
  | 0, .reg .e => .res0_E
  | 0, .reg .h => .res0_H
  | 0, .reg .l => .res0_L
  | 0, .memHL => .res0_MemHL
  | 0, .reg .a => .res0_A
  | 1, .reg .b => .res1_B
  | 1, .reg .c => .res1_C
  | 1, .reg .d => .res1_D
  | 1, .reg .e => .res1_E
  | 1, .reg .h => .res1_H
  | 1, .reg .l => .res1_L
  | 1, .memHL => .res1_MemHL
  | 1, .reg .a => .res1_A
  | 2, .reg .b => .res2_B
  | 2, .reg .c => .res2_C
  | 2, .reg .d => .res2_D
  | 2, .reg .e => .res2_E
  | 2, .reg .h => .res2_H
  | 2, .reg .l => .res2_L
  | 2, .memHL => .res2_MemHL
  | 2, .reg .a => .res2_A
  | 3, .reg .b => .res3_B
  | 3, .reg .c => .res3_C
  | 3, .reg .d => .res3_D
  | 3, .reg .e => .res3_E
  | 3, .reg .h => .res3_H
  | 3, .reg .l => .res3_L
  | 3, .memHL => .res3_MemHL
  | 3, .reg .a => .res3_A
  | 4, .reg .b => .res4_B
  | 4, .reg .c => .res4_C
  | 4, .reg .d => .res4_D
  | 4, .reg .e => .res4_E
  | 4, .reg .h => .res4_H
  | 4, .reg .l => .res4_L
  | 4, .memHL => .res4_MemHL
  | 4, .reg .a => .res4_A
  | 5, .reg .b => .res5_B
  | 5, .reg .c => .res5_C
  | 5, .reg .d => .res5_D
  | 5, .reg .e => .res5_E
  | 5, .reg .h => .res5_H
  | 5, .reg .l => .res5_L
  | 5, .memHL => .res5_MemHL
  | 5, .reg .a => .res5_A
  | 6, .reg .b => .res6_B
  | 6, .reg .c => .res6_C
  | 6, .reg .d => .res6_D
  | 6, .reg .e => .res6_E
  | 6, .reg .h => .res6_H
  | 6, .reg .l => .res6_L
  | 6, .memHL => .res6_MemHL
  | 6, .reg .a => .res6_A
  | 7, .reg .b => .res7_B
  | 7, .reg .c => .res7_C
  | 7, .reg .d => .res7_D
  | 7, .reg .e => .res7_E
  | 7, .reg .h => .res7_H
  | 7, .reg .l => .res7_L
  | 7, .memHL => .res7_MemHL
  | 7, .reg .a => .res7_A

/-- `SET b,x` (R276). -/
def set (b : Fin 8) (o : Operand8) : Instr :=
  match b, o with
  | 0, .reg .b => .set0_B
  | 0, .reg .c => .set0_C
  | 0, .reg .d => .set0_D
  | 0, .reg .e => .set0_E
  | 0, .reg .h => .set0_H
  | 0, .reg .l => .set0_L
  | 0, .memHL => .set0_MemHL
  | 0, .reg .a => .set0_A
  | 1, .reg .b => .set1_B
  | 1, .reg .c => .set1_C
  | 1, .reg .d => .set1_D
  | 1, .reg .e => .set1_E
  | 1, .reg .h => .set1_H
  | 1, .reg .l => .set1_L
  | 1, .memHL => .set1_MemHL
  | 1, .reg .a => .set1_A
  | 2, .reg .b => .set2_B
  | 2, .reg .c => .set2_C
  | 2, .reg .d => .set2_D
  | 2, .reg .e => .set2_E
  | 2, .reg .h => .set2_H
  | 2, .reg .l => .set2_L
  | 2, .memHL => .set2_MemHL
  | 2, .reg .a => .set2_A
  | 3, .reg .b => .set3_B
  | 3, .reg .c => .set3_C
  | 3, .reg .d => .set3_D
  | 3, .reg .e => .set3_E
  | 3, .reg .h => .set3_H
  | 3, .reg .l => .set3_L
  | 3, .memHL => .set3_MemHL
  | 3, .reg .a => .set3_A
  | 4, .reg .b => .set4_B
  | 4, .reg .c => .set4_C
  | 4, .reg .d => .set4_D
  | 4, .reg .e => .set4_E
  | 4, .reg .h => .set4_H
  | 4, .reg .l => .set4_L
  | 4, .memHL => .set4_MemHL
  | 4, .reg .a => .set4_A
  | 5, .reg .b => .set5_B
  | 5, .reg .c => .set5_C
  | 5, .reg .d => .set5_D
  | 5, .reg .e => .set5_E
  | 5, .reg .h => .set5_H
  | 5, .reg .l => .set5_L
  | 5, .memHL => .set5_MemHL
  | 5, .reg .a => .set5_A
  | 6, .reg .b => .set6_B
  | 6, .reg .c => .set6_C
  | 6, .reg .d => .set6_D
  | 6, .reg .e => .set6_E
  | 6, .reg .h => .set6_H
  | 6, .reg .l => .set6_L
  | 6, .memHL => .set6_MemHL
  | 6, .reg .a => .set6_A
  | 7, .reg .b => .set7_B
  | 7, .reg .c => .set7_C
  | 7, .reg .d => .set7_D
  | 7, .reg .e => .set7_E
  | 7, .reg .h => .set7_H
  | 7, .reg .l => .set7_L
  | 7, .memHL => .set7_MemHL
  | 7, .reg .a => .set7_A

end Instr

end Sys2Proof
end

