-- ==== Sys2Proof/Decode.lean ====
section
/-! DEFINITION. Decoding, total on any bytes and rejecting by name, and after it the encoder (30_encoding.md R140, R141, R148,
R150 to R155). -/

namespace Sys2Proof

open Sys2Proof.Machine (mkWord loByte hiByte)

/-- Why bytes are no instruction: none left, or fewer than the opcode's length (R140). -/
inductive DecodeError where
  | empty
  | truncated
  deriving DecidableEq, Repr

/-- The lengths of R155, one row per high digit; an illegal opcode takes its own byte only (46_system.md R317). -/
def lengthRow : Nat → List Nat
  | 0 => [1, 3, 1, 1, 1, 1, 2, 1, 3, 1, 1, 1, 1, 1, 2, 1]
  | 1 => [2, 3, 1, 1, 1, 1, 2, 1, 2, 1, 1, 1, 1, 1, 2, 1]
  | 2 => [2, 3, 1, 1, 1, 1, 2, 1, 2, 1, 1, 1, 1, 1, 2, 1]
  | 3 => [2, 3, 1, 1, 1, 1, 2, 1, 2, 1, 1, 1, 1, 1, 2, 1]
  | 4 => [1, 1, 1, 1, 1, 1, 1, 1, 1, 1, 1, 1, 1, 1, 1, 1]
  | 5 => [1, 1, 1, 1, 1, 1, 1, 1, 1, 1, 1, 1, 1, 1, 1, 1]
  | 6 => [1, 1, 1, 1, 1, 1, 1, 1, 1, 1, 1, 1, 1, 1, 1, 1]
  | 7 => [1, 1, 1, 1, 1, 1, 1, 1, 1, 1, 1, 1, 1, 1, 1, 1]
  | 8 => [1, 1, 1, 1, 1, 1, 1, 1, 1, 1, 1, 1, 1, 1, 1, 1]
  | 9 => [1, 1, 1, 1, 1, 1, 1, 1, 1, 1, 1, 1, 1, 1, 1, 1]
  | 10 => [1, 1, 1, 1, 1, 1, 1, 1, 1, 1, 1, 1, 1, 1, 1, 1]
  | 11 => [1, 1, 1, 1, 1, 1, 1, 1, 1, 1, 1, 1, 1, 1, 1, 1]
  | 12 => [1, 1, 3, 3, 3, 1, 2, 1, 1, 1, 3, 2, 3, 3, 2, 1]
  | 13 => [1, 1, 3, 1, 3, 1, 2, 1, 1, 1, 3, 1, 3, 1, 2, 1]
  | 14 => [2, 1, 1, 1, 1, 1, 2, 1, 2, 1, 3, 1, 1, 1, 2, 1]
  | _ => [2, 1, 1, 1, 1, 1, 2, 1, 2, 1, 3, 1, 1, 1, 2, 1]

/-- `len(op)` (R155). -/
def instrLen (op : Byte) : Nat := (lengthRow (op.toNat / 16)).getD (op.toNat % 16) 1

/-- Row 0 of the primary page (R150), by the low digit; `n` is the second byte, `nn` the second and third. -/
def primaryRow0 (lo : Nat) (n : Byte) (nn : Word) : Instr :=
  match lo with
  | 0 => .nop
  | 1 => .ldBC_d16 nn
  | 2 => .ldMemBC_A
  | 3 => .incBC
  | 4 => .incB
  | 5 => .decB
  | 6 => .ldB_d8 n
  | 7 => .rlca
  | 8 => .ldMemA16_SP nn
  | 9 => .addHL_BC
  | 10 => .ldA_MemBC
  | 11 => .decBC
  | 12 => .incC
  | 13 => .decC
  | 14 => .ldC_d8 n
  | _ => .rrca

/-- Row 1 of the primary page (R150), by the low digit. -/
def primaryRow1 (lo : Nat) (n : Byte) (nn : Word) : Instr :=
  match lo with
  | 0 => .stop n
  | 1 => .ldDE_d16 nn
  | 2 => .ldMemDE_A
  | 3 => .incDE
  | 4 => .incD
  | 5 => .decD
  | 6 => .ldD_d8 n
  | 7 => .rla
  | 8 => .jr n
  | 9 => .addHL_DE
  | 10 => .ldA_MemDE
  | 11 => .decDE
  | 12 => .incE
  | 13 => .decE
  | 14 => .ldE_d8 n
  | _ => .rra

/-- Row 2 of the primary page (R150), by the low digit. -/
def primaryRow2 (lo : Nat) (n : Byte) (nn : Word) : Instr :=
  match lo with
  | 0 => .jrNZ n
  | 1 => .ldHL_d16 nn
  | 2 => .ldMemHLI_A
  | 3 => .incHL
  | 4 => .incH
  | 5 => .decH
  | 6 => .ldH_d8 n
  | 7 => .daa
  | 8 => .jrZ n
  | 9 => .addHL_HL
  | 10 => .ldA_MemHLI
  | 11 => .decHL
  | 12 => .incL
  | 13 => .decL
  | 14 => .ldL_d8 n
  | _ => .cpl

/-- Row 3 of the primary page (R150), by the low digit. -/
def primaryRow3 (lo : Nat) (n : Byte) (nn : Word) : Instr :=
  match lo with
  | 0 => .jrNC n
  | 1 => .ldSP_d16 nn
  | 2 => .ldMemHLD_A
  | 3 => .incSP
  | 4 => .incMemHL
  | 5 => .decMemHL
  | 6 => .ldMemHL_d8 n
  | 7 => .scf
  | 8 => .jrC n
  | 9 => .addHL_SP
  | 10 => .ldA_MemHLD
  | 11 => .decSP
  | 12 => .incA
  | 13 => .decA
  | 14 => .ldA_d8 n
  | _ => .ccf

/-- Row 4 of the primary page (R150), by the low digit. -/
def primaryRow4 (lo : Nat) (_n : Byte) (_nn : Word) : Instr :=
  match lo with
  | 0 => .ldB_B
  | 1 => .ldB_C
  | 2 => .ldB_D
  | 3 => .ldB_E
  | 4 => .ldB_H
  | 5 => .ldB_L
  | 6 => .ldB_MemHL
  | 7 => .ldB_A
  | 8 => .ldC_B
  | 9 => .ldC_C
  | 10 => .ldC_D
  | 11 => .ldC_E
  | 12 => .ldC_H
  | 13 => .ldC_L
  | 14 => .ldC_MemHL
  | _ => .ldC_A

/-- Row 5 of the primary page (R150), by the low digit. -/
def primaryRow5 (lo : Nat) (_n : Byte) (_nn : Word) : Instr :=
  match lo with
  | 0 => .ldD_B
  | 1 => .ldD_C
  | 2 => .ldD_D
  | 3 => .ldD_E
  | 4 => .ldD_H
  | 5 => .ldD_L
  | 6 => .ldD_MemHL
  | 7 => .ldD_A
  | 8 => .ldE_B
  | 9 => .ldE_C
  | 10 => .ldE_D
  | 11 => .ldE_E
  | 12 => .ldE_H
  | 13 => .ldE_L
  | 14 => .ldE_MemHL
  | _ => .ldE_A

/-- Row 6 of the primary page (R150), by the low digit. -/
def primaryRow6 (lo : Nat) (_n : Byte) (_nn : Word) : Instr :=
  match lo with
  | 0 => .ldH_B
  | 1 => .ldH_C
  | 2 => .ldH_D
  | 3 => .ldH_E
  | 4 => .ldH_H
  | 5 => .ldH_L
  | 6 => .ldH_MemHL
  | 7 => .ldH_A
  | 8 => .ldL_B
  | 9 => .ldL_C
  | 10 => .ldL_D
  | 11 => .ldL_E
  | 12 => .ldL_H
  | 13 => .ldL_L
  | 14 => .ldL_MemHL
  | _ => .ldL_A

/-- Row 7 of the primary page (R150), by the low digit. -/
def primaryRow7 (lo : Nat) (_n : Byte) (_nn : Word) : Instr :=
  match lo with
  | 0 => .ldMemHL_B
  | 1 => .ldMemHL_C
  | 2 => .ldMemHL_D
  | 3 => .ldMemHL_E
  | 4 => .ldMemHL_H
  | 5 => .ldMemHL_L
  | 6 => .halt
  | 7 => .ldMemHL_A
  | 8 => .ldA_B
  | 9 => .ldA_C
  | 10 => .ldA_D
  | 11 => .ldA_E
  | 12 => .ldA_H
  | 13 => .ldA_L
  | 14 => .ldA_MemHL
  | _ => .ldA_A

/-- Row 8 of the primary page (R150), by the low digit. -/
def primaryRow8 (lo : Nat) (_n : Byte) (_nn : Word) : Instr :=
  match lo with
  | 0 => .addA_B
  | 1 => .addA_C
  | 2 => .addA_D
  | 3 => .addA_E
  | 4 => .addA_H
  | 5 => .addA_L
  | 6 => .addA_MemHL
  | 7 => .addA_A
  | 8 => .adcA_B
  | 9 => .adcA_C
  | 10 => .adcA_D
  | 11 => .adcA_E
  | 12 => .adcA_H
  | 13 => .adcA_L
  | 14 => .adcA_MemHL
  | _ => .adcA_A

/-- Row 9 of the primary page (R150), by the low digit. -/
def primaryRow9 (lo : Nat) (_n : Byte) (_nn : Word) : Instr :=
  match lo with
  | 0 => .subA_B
  | 1 => .subA_C
  | 2 => .subA_D
  | 3 => .subA_E
  | 4 => .subA_H
  | 5 => .subA_L
  | 6 => .subA_MemHL
  | 7 => .subA_A
  | 8 => .sbcA_B
  | 9 => .sbcA_C
  | 10 => .sbcA_D
  | 11 => .sbcA_E
  | 12 => .sbcA_H
  | 13 => .sbcA_L
  | 14 => .sbcA_MemHL
  | _ => .sbcA_A

/-- Row A of the primary page (R150), by the low digit. -/
def primaryRowA (lo : Nat) (_n : Byte) (_nn : Word) : Instr :=
  match lo with
  | 0 => .andA_B
  | 1 => .andA_C
  | 2 => .andA_D
  | 3 => .andA_E
  | 4 => .andA_H
  | 5 => .andA_L
  | 6 => .andA_MemHL
  | 7 => .andA_A
  | 8 => .xorA_B
  | 9 => .xorA_C
  | 10 => .xorA_D
  | 11 => .xorA_E
  | 12 => .xorA_H
  | 13 => .xorA_L
  | 14 => .xorA_MemHL
  | _ => .xorA_A

/-- Row B of the primary page (R150), by the low digit. -/
def primaryRowB (lo : Nat) (_n : Byte) (_nn : Word) : Instr :=
  match lo with
  | 0 => .orA_B
  | 1 => .orA_C
  | 2 => .orA_D
  | 3 => .orA_E
  | 4 => .orA_H
  | 5 => .orA_L
  | 6 => .orA_MemHL
  | 7 => .orA_A
  | 8 => .cpA_B
  | 9 => .cpA_C
  | 10 => .cpA_D
  | 11 => .cpA_E
  | 12 => .cpA_H
  | 13 => .cpA_L
  | 14 => .cpA_MemHL
  | _ => .cpA_A

/-- Row C of the primary page (R150), by the low digit. -/
def primaryRowC (lo : Nat) (n : Byte) (nn : Word) : Instr :=
  match lo with
  | 0 => .retNZ
  | 1 => .popBC
  | 2 => .jpNZ nn
  | 3 => .jp nn
  | 4 => .callNZ nn
  | 5 => .pushBC
  | 6 => .addA_d8 n
  | 7 => .rst00
  | 8 => .retZ
  | 9 => .ret
  | 10 => .jpZ nn
  | 11 => .prefixCB n
  | 12 => .callZ nn
  | 13 => .call nn
  | 14 => .adcA_d8 n
  | _ => .rst08

/-- Row D of the primary page (R150), by the low digit. -/
def primaryRowD (lo : Nat) (n : Byte) (nn : Word) : Instr :=
  match lo with
  | 0 => .retNC
  | 1 => .popDE
  | 2 => .jpNC nn
  | 3 => .illegalD3
  | 4 => .callNC nn
  | 5 => .pushDE
  | 6 => .subA_d8 n
  | 7 => .rst10
  | 8 => .retC
  | 9 => .reti
  | 10 => .jpC nn
  | 11 => .illegalDB
  | 12 => .callC nn
  | 13 => .illegalDD
  | 14 => .sbcA_d8 n
  | _ => .rst18

/-- Row E of the primary page (R150), by the low digit. -/
def primaryRowE (lo : Nat) (n : Byte) (nn : Word) : Instr :=
  match lo with
  | 0 => .ldhMemA8_A n
  | 1 => .popHL
  | 2 => .ldMemC_A
  | 3 => .illegalE3
  | 4 => .illegalE4
  | 5 => .pushHL
  | 6 => .andA_d8 n
  | 7 => .rst20
  | 8 => .addSP_r8 n
  | 9 => .jpHL
  | 10 => .ldMemA16_A nn
  | 11 => .illegalEB
  | 12 => .illegalEC
  | 13 => .illegalED
  | 14 => .xorA_d8 n
  | _ => .rst28

/-- Row F of the primary page (R150), by the low digit. -/
def primaryRowF (lo : Nat) (n : Byte) (nn : Word) : Instr :=
  match lo with
  | 0 => .ldhA_MemA8 n
  | 1 => .popAF
  | 2 => .ldA_MemC
  | 3 => .di
  | 4 => .illegalF4
  | 5 => .pushAF
  | 6 => .orA_d8 n
  | 7 => .rst30
  | 8 => .ldHL_SPr8 n
  | 9 => .ldSP_HL
  | 10 => .ldA_MemA16 nn
  | 11 => .ei
  | 12 => .illegalFC
  | 13 => .illegalFD
  | 14 => .cpA_d8 n
  | _ => .rst38

/-- Row 0 of the secondary page (R151), by the low digit. -/
def secondaryRow0 (lo : Nat) : Instr :=
  match lo with
  | 0 => .rlcB
  | 1 => .rlcC
  | 2 => .rlcD
  | 3 => .rlcE
  | 4 => .rlcH
  | 5 => .rlcL
  | 6 => .rlcMemHL
  | 7 => .rlcA
  | 8 => .rrcB
  | 9 => .rrcC
  | 10 => .rrcD
  | 11 => .rrcE
  | 12 => .rrcH
  | 13 => .rrcL
  | 14 => .rrcMemHL
  | _ => .rrcA

/-- Row 1 of the secondary page (R151), by the low digit. -/
def secondaryRow1 (lo : Nat) : Instr :=
  match lo with
  | 0 => .rlB
  | 1 => .rlC
  | 2 => .rlD
  | 3 => .rlE
  | 4 => .rlH
  | 5 => .rlL
  | 6 => .rlMemHL
  | 7 => .rlA
  | 8 => .rrB
  | 9 => .rrC
  | 10 => .rrD
  | 11 => .rrE
  | 12 => .rrH
  | 13 => .rrL
  | 14 => .rrMemHL
  | _ => .rrA

/-- Row 2 of the secondary page (R151), by the low digit. -/
def secondaryRow2 (lo : Nat) : Instr :=
  match lo with
  | 0 => .slaB
  | 1 => .slaC
  | 2 => .slaD
  | 3 => .slaE
  | 4 => .slaH
  | 5 => .slaL
  | 6 => .slaMemHL
  | 7 => .slaA
  | 8 => .sraB
  | 9 => .sraC
  | 10 => .sraD
  | 11 => .sraE
  | 12 => .sraH
  | 13 => .sraL
  | 14 => .sraMemHL
  | _ => .sraA

/-- Row 3 of the secondary page (R151), by the low digit. -/
def secondaryRow3 (lo : Nat) : Instr :=
  match lo with
  | 0 => .swapB
  | 1 => .swapC
  | 2 => .swapD
  | 3 => .swapE
  | 4 => .swapH
  | 5 => .swapL
  | 6 => .swapMemHL
  | 7 => .swapA
  | 8 => .srlB
  | 9 => .srlC
  | 10 => .srlD
  | 11 => .srlE
  | 12 => .srlH
  | 13 => .srlL
  | 14 => .srlMemHL
  | _ => .srlA

/-- Row 4 of the secondary page (R151), by the low digit. -/
def secondaryRow4 (lo : Nat) : Instr :=
  match lo with
  | 0 => .bit0_B
  | 1 => .bit0_C
  | 2 => .bit0_D
  | 3 => .bit0_E
  | 4 => .bit0_H
  | 5 => .bit0_L
  | 6 => .bit0_MemHL
  | 7 => .bit0_A
  | 8 => .bit1_B
  | 9 => .bit1_C
  | 10 => .bit1_D
  | 11 => .bit1_E
  | 12 => .bit1_H
  | 13 => .bit1_L
  | 14 => .bit1_MemHL
  | _ => .bit1_A

/-- Row 5 of the secondary page (R151), by the low digit. -/
def secondaryRow5 (lo : Nat) : Instr :=
  match lo with
  | 0 => .bit2_B
  | 1 => .bit2_C
  | 2 => .bit2_D
  | 3 => .bit2_E
  | 4 => .bit2_H
  | 5 => .bit2_L
  | 6 => .bit2_MemHL
  | 7 => .bit2_A
  | 8 => .bit3_B
  | 9 => .bit3_C
  | 10 => .bit3_D
  | 11 => .bit3_E
  | 12 => .bit3_H
  | 13 => .bit3_L
  | 14 => .bit3_MemHL
  | _ => .bit3_A

/-- Row 6 of the secondary page (R151), by the low digit. -/
def secondaryRow6 (lo : Nat) : Instr :=
  match lo with
  | 0 => .bit4_B
  | 1 => .bit4_C
  | 2 => .bit4_D
  | 3 => .bit4_E
  | 4 => .bit4_H
  | 5 => .bit4_L
  | 6 => .bit4_MemHL
  | 7 => .bit4_A
  | 8 => .bit5_B
  | 9 => .bit5_C
  | 10 => .bit5_D
  | 11 => .bit5_E
  | 12 => .bit5_H
  | 13 => .bit5_L
  | 14 => .bit5_MemHL
  | _ => .bit5_A

/-- Row 7 of the secondary page (R151), by the low digit. -/
def secondaryRow7 (lo : Nat) : Instr :=
  match lo with
  | 0 => .bit6_B
  | 1 => .bit6_C
  | 2 => .bit6_D
  | 3 => .bit6_E
  | 4 => .bit6_H
  | 5 => .bit6_L
  | 6 => .bit6_MemHL
  | 7 => .bit6_A
  | 8 => .bit7_B
  | 9 => .bit7_C
  | 10 => .bit7_D
  | 11 => .bit7_E
  | 12 => .bit7_H
  | 13 => .bit7_L
  | 14 => .bit7_MemHL
  | _ => .bit7_A

/-- Row 8 of the secondary page (R151), by the low digit. -/
def secondaryRow8 (lo : Nat) : Instr :=
  match lo with
  | 0 => .res0_B
  | 1 => .res0_C
  | 2 => .res0_D
  | 3 => .res0_E
  | 4 => .res0_H
  | 5 => .res0_L
  | 6 => .res0_MemHL
  | 7 => .res0_A
  | 8 => .res1_B
  | 9 => .res1_C
  | 10 => .res1_D
  | 11 => .res1_E
  | 12 => .res1_H
  | 13 => .res1_L
  | 14 => .res1_MemHL
  | _ => .res1_A

/-- Row 9 of the secondary page (R151), by the low digit. -/
def secondaryRow9 (lo : Nat) : Instr :=
  match lo with
  | 0 => .res2_B
  | 1 => .res2_C
  | 2 => .res2_D
  | 3 => .res2_E
  | 4 => .res2_H
  | 5 => .res2_L
  | 6 => .res2_MemHL
  | 7 => .res2_A
  | 8 => .res3_B
  | 9 => .res3_C
  | 10 => .res3_D
  | 11 => .res3_E
  | 12 => .res3_H
  | 13 => .res3_L
  | 14 => .res3_MemHL
  | _ => .res3_A

/-- Row A of the secondary page (R151), by the low digit. -/
def secondaryRowA (lo : Nat) : Instr :=
  match lo with
  | 0 => .res4_B
  | 1 => .res4_C
  | 2 => .res4_D
  | 3 => .res4_E
  | 4 => .res4_H
  | 5 => .res4_L
  | 6 => .res4_MemHL
  | 7 => .res4_A
  | 8 => .res5_B
  | 9 => .res5_C
  | 10 => .res5_D
  | 11 => .res5_E
  | 12 => .res5_H
  | 13 => .res5_L
  | 14 => .res5_MemHL
  | _ => .res5_A

/-- Row B of the secondary page (R151), by the low digit. -/
def secondaryRowB (lo : Nat) : Instr :=
  match lo with
  | 0 => .res6_B
  | 1 => .res6_C
  | 2 => .res6_D
  | 3 => .res6_E
  | 4 => .res6_H
  | 5 => .res6_L
  | 6 => .res6_MemHL
  | 7 => .res6_A
  | 8 => .res7_B
  | 9 => .res7_C
  | 10 => .res7_D
  | 11 => .res7_E
  | 12 => .res7_H
  | 13 => .res7_L
  | 14 => .res7_MemHL
  | _ => .res7_A

/-- Row C of the secondary page (R151), by the low digit. -/
def secondaryRowC (lo : Nat) : Instr :=
  match lo with
  | 0 => .set0_B
  | 1 => .set0_C
  | 2 => .set0_D
  | 3 => .set0_E
  | 4 => .set0_H
  | 5 => .set0_L
  | 6 => .set0_MemHL
  | 7 => .set0_A
  | 8 => .set1_B
  | 9 => .set1_C
  | 10 => .set1_D
  | 11 => .set1_E
  | 12 => .set1_H
  | 13 => .set1_L
  | 14 => .set1_MemHL
  | _ => .set1_A

/-- Row D of the secondary page (R151), by the low digit. -/
def secondaryRowD (lo : Nat) : Instr :=
  match lo with
  | 0 => .set2_B
  | 1 => .set2_C
  | 2 => .set2_D
  | 3 => .set2_E
  | 4 => .set2_H
  | 5 => .set2_L
  | 6 => .set2_MemHL
  | 7 => .set2_A
  | 8 => .set3_B
  | 9 => .set3_C
  | 10 => .set3_D
  | 11 => .set3_E
  | 12 => .set3_H
  | 13 => .set3_L
  | 14 => .set3_MemHL
  | _ => .set3_A

/-- Row E of the secondary page (R151), by the low digit. -/
def secondaryRowE (lo : Nat) : Instr :=
  match lo with
  | 0 => .set4_B
  | 1 => .set4_C
  | 2 => .set4_D
  | 3 => .set4_E
  | 4 => .set4_H
  | 5 => .set4_L
  | 6 => .set4_MemHL
  | 7 => .set4_A
  | 8 => .set5_B
  | 9 => .set5_C
  | 10 => .set5_D
  | 11 => .set5_E
  | 12 => .set5_H
  | 13 => .set5_L
  | 14 => .set5_MemHL
  | _ => .set5_A

/-- Row F of the secondary page (R151), by the low digit. -/
def secondaryRowF (lo : Nat) : Instr :=
  match lo with
  | 0 => .set6_B
  | 1 => .set6_C
  | 2 => .set6_D
  | 3 => .set6_E
  | 4 => .set6_H
  | 5 => .set6_L
  | 6 => .set6_MemHL
  | 7 => .set6_A
  | 8 => .set7_B
  | 9 => .set7_C
  | 10 => .set7_D
  | 11 => .set7_E
  | 12 => .set7_H
  | 13 => .set7_L
  | 14 => .set7_MemHL
  | _ => .set7_A

/-- The instruction of the primary page (R150). -/
def decodePrimary (op n : Byte) (nn : Word) : Instr :=
  let lo := op.toNat % 16
  match op.toNat / 16 with
  | 0 => primaryRow0 lo n nn
  | 1 => primaryRow1 lo n nn
  | 2 => primaryRow2 lo n nn
  | 3 => primaryRow3 lo n nn
  | 4 => primaryRow4 lo n nn
  | 5 => primaryRow5 lo n nn
  | 6 => primaryRow6 lo n nn
  | 7 => primaryRow7 lo n nn
  | 8 => primaryRow8 lo n nn
  | 9 => primaryRow9 lo n nn
  | 10 => primaryRowA lo n nn
  | 11 => primaryRowB lo n nn
  | 12 => primaryRowC lo n nn
  | 13 => primaryRowD lo n nn
  | 14 => primaryRowE lo n nn
  | _ => primaryRowF lo n nn

/-- The instruction of the secondary page (R151). -/
def decodeSecondary (op2 : Byte) : Instr :=
  let lo := op2.toNat % 16
  match op2.toNat / 16 with
  | 0 => secondaryRow0 lo
  | 1 => secondaryRow1 lo
  | 2 => secondaryRow2 lo
  | 3 => secondaryRow3 lo
  | 4 => secondaryRow4 lo
  | 5 => secondaryRow5 lo
  | 6 => secondaryRow6 lo
  | 7 => secondaryRow7 lo
  | 8 => secondaryRow8 lo
  | 9 => secondaryRow9 lo
  | 10 => secondaryRowA lo
  | 11 => secondaryRowB lo
  | 12 => secondaryRowC lo
  | 13 => secondaryRowD lo
  | 14 => secondaryRowE lo
  | _ => secondaryRowF lo

/-- The decoding algorithm (R155) on an opcode and the two bytes after it, of which an instruction uses as many as its
length says; 16-bit operands have the low byte first (R148). -/
def decodeOp (op b1 b2 : Byte) : Instr := if op = 0xCB#8 then decodeSecondary b1 else decodePrimary op b1 (mkWord b2 b1)

/-- Decoding the front of a byte sequence, with the bytes left over. -/
def decode : List Byte → Except DecodeError (Instr × List Byte)
  | [] => .error .empty
  | op :: rest =>
    match instrLen op, rest with
    | 1, _ => .ok (decodeOp op 0#8 0#8, rest)
    | 2, b1 :: rest' => .ok (decodeOp op b1 0#8, rest')
    | 3, b1 :: b2 :: rest' => .ok (decodeOp op b1 b2, rest')
    | _, _ => .error .truncated

/-- The bytes of an instruction, lowest address first (R141), written from the pages of R150 and R151. -/
def encode (i : Instr) : List Byte :=
  match i with
  | .ldBC_d16 nn => [0x01#8, loByte nn, hiByte nn]
  | .ldB_d8 n => [0x06#8, n]
  | .ldMemA16_SP nn => [0x08#8, loByte nn, hiByte nn]
  | .ldC_d8 n => [0x0E#8, n]
  | .stop ignored => [0x10#8, ignored]
  | .ldDE_d16 nn => [0x11#8, loByte nn, hiByte nn]
  | .ldD_d8 n => [0x16#8, n]
  | .jr e => [0x18#8, e]
  | .ldE_d8 n => [0x1E#8, n]
  | .jrNZ e => [0x20#8, e]
  | .ldHL_d16 nn => [0x21#8, loByte nn, hiByte nn]
  | .ldH_d8 n => [0x26#8, n]
  | .jrZ e => [0x28#8, e]
  | .ldL_d8 n => [0x2E#8, n]
  | .jrNC e => [0x30#8, e]
  | .ldSP_d16 nn => [0x31#8, loByte nn, hiByte nn]
  | .ldMemHL_d8 n => [0x36#8, n]
  | .jrC e => [0x38#8, e]
  | .ldA_d8 n => [0x3E#8, n]
  | .jpNZ nn => [0xC2#8, loByte nn, hiByte nn]
  | .jp nn => [0xC3#8, loByte nn, hiByte nn]
  | .callNZ nn => [0xC4#8, loByte nn, hiByte nn]
  | .addA_d8 n => [0xC6#8, n]
  | .jpZ nn => [0xCA#8, loByte nn, hiByte nn]
  | .prefixCB op2 => [0xCB#8, op2]
  | .callZ nn => [0xCC#8, loByte nn, hiByte nn]
  | .call nn => [0xCD#8, loByte nn, hiByte nn]
  | .adcA_d8 n => [0xCE#8, n]
  | .jpNC nn => [0xD2#8, loByte nn, hiByte nn]
  | .callNC nn => [0xD4#8, loByte nn, hiByte nn]
  | .subA_d8 n => [0xD6#8, n]
  | .jpC nn => [0xDA#8, loByte nn, hiByte nn]
  | .callC nn => [0xDC#8, loByte nn, hiByte nn]
  | .sbcA_d8 n => [0xDE#8, n]
  | .ldhMemA8_A n => [0xE0#8, n]
  | .andA_d8 n => [0xE6#8, n]
  | .addSP_r8 e => [0xE8#8, e]
  | .ldMemA16_A nn => [0xEA#8, loByte nn, hiByte nn]
  | .xorA_d8 n => [0xEE#8, n]
  | .ldhA_MemA8 n => [0xF0#8, n]
  | .orA_d8 n => [0xF6#8, n]
  | .ldHL_SPr8 e => [0xF8#8, e]
  | .ldA_MemA16 nn => [0xFA#8, loByte nn, hiByte nn]
  | .cpA_d8 n => [0xFE#8, n]
  | .nop => [0x00#8]
  | .ldMemBC_A => [0x02#8]
  | .incBC => [0x03#8]
  | .incB => [0x04#8]
  | .decB => [0x05#8]
  | .rlca => [0x07#8]
  | .addHL_BC => [0x09#8]
  | .ldA_MemBC => [0x0A#8]
  | .decBC => [0x0B#8]
  | .incC => [0x0C#8]
  | .decC => [0x0D#8]
  | .rrca => [0x0F#8]
  | .ldMemDE_A => [0x12#8]
  | .incDE => [0x13#8]
  | .incD => [0x14#8]
  | .decD => [0x15#8]
  | .rla => [0x17#8]
  | .addHL_DE => [0x19#8]
  | .ldA_MemDE => [0x1A#8]
  | .decDE => [0x1B#8]
  | .incE => [0x1C#8]
  | .decE => [0x1D#8]
  | .rra => [0x1F#8]
  | .ldMemHLI_A => [0x22#8]
  | .incHL => [0x23#8]
  | .incH => [0x24#8]
  | .decH => [0x25#8]
  | .daa => [0x27#8]
  | .addHL_HL => [0x29#8]
  | .ldA_MemHLI => [0x2A#8]
  | .decHL => [0x2B#8]
  | .incL => [0x2C#8]
  | .decL => [0x2D#8]
  | .cpl => [0x2F#8]
  | .ldMemHLD_A => [0x32#8]
  | .incSP => [0x33#8]
  | .incMemHL => [0x34#8]
  | .decMemHL => [0x35#8]
  | .scf => [0x37#8]
  | .addHL_SP => [0x39#8]
  | .ldA_MemHLD => [0x3A#8]
  | .decSP => [0x3B#8]
  | .incA => [0x3C#8]
  | .decA => [0x3D#8]
  | .ccf => [0x3F#8]
  | .ldB_B => [0x40#8]
  | .ldB_C => [0x41#8]
  | .ldB_D => [0x42#8]
  | .ldB_E => [0x43#8]
  | .ldB_H => [0x44#8]
  | .ldB_L => [0x45#8]
  | .ldB_MemHL => [0x46#8]
  | .ldB_A => [0x47#8]
  | .ldC_B => [0x48#8]
  | .ldC_C => [0x49#8]
  | .ldC_D => [0x4A#8]
  | .ldC_E => [0x4B#8]
  | .ldC_H => [0x4C#8]
  | .ldC_L => [0x4D#8]
  | .ldC_MemHL => [0x4E#8]
  | .ldC_A => [0x4F#8]
  | .ldD_B => [0x50#8]
  | .ldD_C => [0x51#8]
  | .ldD_D => [0x52#8]
  | .ldD_E => [0x53#8]
  | .ldD_H => [0x54#8]
  | .ldD_L => [0x55#8]
  | .ldD_MemHL => [0x56#8]
  | .ldD_A => [0x57#8]
  | .ldE_B => [0x58#8]
  | .ldE_C => [0x59#8]
  | .ldE_D => [0x5A#8]
  | .ldE_E => [0x5B#8]
  | .ldE_H => [0x5C#8]
  | .ldE_L => [0x5D#8]
  | .ldE_MemHL => [0x5E#8]
  | .ldE_A => [0x5F#8]
  | .ldH_B => [0x60#8]
  | .ldH_C => [0x61#8]
  | .ldH_D => [0x62#8]
  | .ldH_E => [0x63#8]
  | .ldH_H => [0x64#8]
  | .ldH_L => [0x65#8]
  | .ldH_MemHL => [0x66#8]
  | .ldH_A => [0x67#8]
  | .ldL_B => [0x68#8]
  | .ldL_C => [0x69#8]
  | .ldL_D => [0x6A#8]
  | .ldL_E => [0x6B#8]
  | .ldL_H => [0x6C#8]
  | .ldL_L => [0x6D#8]
  | .ldL_MemHL => [0x6E#8]
  | .ldL_A => [0x6F#8]
  | .ldMemHL_B => [0x70#8]
  | .ldMemHL_C => [0x71#8]
  | .ldMemHL_D => [0x72#8]
  | .ldMemHL_E => [0x73#8]
  | .ldMemHL_H => [0x74#8]
  | .ldMemHL_L => [0x75#8]
  | .halt => [0x76#8]
  | .ldMemHL_A => [0x77#8]
  | .ldA_B => [0x78#8]
  | .ldA_C => [0x79#8]
  | .ldA_D => [0x7A#8]
  | .ldA_E => [0x7B#8]
  | .ldA_H => [0x7C#8]
  | .ldA_L => [0x7D#8]
  | .ldA_MemHL => [0x7E#8]
  | .ldA_A => [0x7F#8]
  | .addA_B => [0x80#8]
  | .addA_C => [0x81#8]
  | .addA_D => [0x82#8]
  | .addA_E => [0x83#8]
  | .addA_H => [0x84#8]
  | .addA_L => [0x85#8]
  | .addA_MemHL => [0x86#8]
  | .addA_A => [0x87#8]
  | .adcA_B => [0x88#8]
  | .adcA_C => [0x89#8]
  | .adcA_D => [0x8A#8]
  | .adcA_E => [0x8B#8]
  | .adcA_H => [0x8C#8]
  | .adcA_L => [0x8D#8]
  | .adcA_MemHL => [0x8E#8]
  | .adcA_A => [0x8F#8]
  | .subA_B => [0x90#8]
  | .subA_C => [0x91#8]
  | .subA_D => [0x92#8]
  | .subA_E => [0x93#8]
  | .subA_H => [0x94#8]
  | .subA_L => [0x95#8]
  | .subA_MemHL => [0x96#8]
  | .subA_A => [0x97#8]
  | .sbcA_B => [0x98#8]
  | .sbcA_C => [0x99#8]
  | .sbcA_D => [0x9A#8]
  | .sbcA_E => [0x9B#8]
  | .sbcA_H => [0x9C#8]
  | .sbcA_L => [0x9D#8]
  | .sbcA_MemHL => [0x9E#8]
  | .sbcA_A => [0x9F#8]
  | .andA_B => [0xA0#8]
  | .andA_C => [0xA1#8]
  | .andA_D => [0xA2#8]
  | .andA_E => [0xA3#8]
  | .andA_H => [0xA4#8]
  | .andA_L => [0xA5#8]
  | .andA_MemHL => [0xA6#8]
  | .andA_A => [0xA7#8]
  | .xorA_B => [0xA8#8]
  | .xorA_C => [0xA9#8]
  | .xorA_D => [0xAA#8]
  | .xorA_E => [0xAB#8]
  | .xorA_H => [0xAC#8]
  | .xorA_L => [0xAD#8]
  | .xorA_MemHL => [0xAE#8]
  | .xorA_A => [0xAF#8]
  | .orA_B => [0xB0#8]
  | .orA_C => [0xB1#8]
  | .orA_D => [0xB2#8]
  | .orA_E => [0xB3#8]
  | .orA_H => [0xB4#8]
  | .orA_L => [0xB5#8]
  | .orA_MemHL => [0xB6#8]
  | .orA_A => [0xB7#8]
  | .cpA_B => [0xB8#8]
  | .cpA_C => [0xB9#8]
  | .cpA_D => [0xBA#8]
  | .cpA_E => [0xBB#8]
  | .cpA_H => [0xBC#8]
  | .cpA_L => [0xBD#8]
  | .cpA_MemHL => [0xBE#8]
  | .cpA_A => [0xBF#8]
  | .retNZ => [0xC0#8]
  | .popBC => [0xC1#8]
  | .pushBC => [0xC5#8]
  | .rst00 => [0xC7#8]
  | .retZ => [0xC8#8]
  | .ret => [0xC9#8]
  | .rst08 => [0xCF#8]
  | .retNC => [0xD0#8]
  | .popDE => [0xD1#8]
  | .illegalD3 => [0xD3#8]
  | .pushDE => [0xD5#8]
  | .rst10 => [0xD7#8]
  | .retC => [0xD8#8]
  | .reti => [0xD9#8]
  | .illegalDB => [0xDB#8]
  | .illegalDD => [0xDD#8]
  | .rst18 => [0xDF#8]
  | .popHL => [0xE1#8]
  | .ldMemC_A => [0xE2#8]
  | .illegalE3 => [0xE3#8]
  | .illegalE4 => [0xE4#8]
  | .pushHL => [0xE5#8]
  | .rst20 => [0xE7#8]
  | .jpHL => [0xE9#8]
  | .illegalEB => [0xEB#8]
  | .illegalEC => [0xEC#8]
  | .illegalED => [0xED#8]
  | .rst28 => [0xEF#8]
  | .popAF => [0xF1#8]
  | .ldA_MemC => [0xF2#8]
  | .di => [0xF3#8]
  | .illegalF4 => [0xF4#8]
  | .pushAF => [0xF5#8]
  | .rst30 => [0xF7#8]
  | .ldSP_HL => [0xF9#8]
  | .ei => [0xFB#8]
  | .illegalFC => [0xFC#8]
  | .illegalFD => [0xFD#8]
  | .rst38 => [0xFF#8]
  | .rlcB => [0xCB#8, 0x00#8]
  | .rlcC => [0xCB#8, 0x01#8]
  | .rlcD => [0xCB#8, 0x02#8]
  | .rlcE => [0xCB#8, 0x03#8]
  | .rlcH => [0xCB#8, 0x04#8]
  | .rlcL => [0xCB#8, 0x05#8]
  | .rlcMemHL => [0xCB#8, 0x06#8]
  | .rlcA => [0xCB#8, 0x07#8]
  | .rrcB => [0xCB#8, 0x08#8]
  | .rrcC => [0xCB#8, 0x09#8]
  | .rrcD => [0xCB#8, 0x0A#8]
  | .rrcE => [0xCB#8, 0x0B#8]
  | .rrcH => [0xCB#8, 0x0C#8]
  | .rrcL => [0xCB#8, 0x0D#8]
  | .rrcMemHL => [0xCB#8, 0x0E#8]
  | .rrcA => [0xCB#8, 0x0F#8]
  | .rlB => [0xCB#8, 0x10#8]
  | .rlC => [0xCB#8, 0x11#8]
  | .rlD => [0xCB#8, 0x12#8]
  | .rlE => [0xCB#8, 0x13#8]
  | .rlH => [0xCB#8, 0x14#8]
  | .rlL => [0xCB#8, 0x15#8]
  | .rlMemHL => [0xCB#8, 0x16#8]
  | .rlA => [0xCB#8, 0x17#8]
  | .rrB => [0xCB#8, 0x18#8]
  | .rrC => [0xCB#8, 0x19#8]
  | .rrD => [0xCB#8, 0x1A#8]
  | .rrE => [0xCB#8, 0x1B#8]
  | .rrH => [0xCB#8, 0x1C#8]
  | .rrL => [0xCB#8, 0x1D#8]
  | .rrMemHL => [0xCB#8, 0x1E#8]
  | .rrA => [0xCB#8, 0x1F#8]
  | .slaB => [0xCB#8, 0x20#8]
  | .slaC => [0xCB#8, 0x21#8]
  | .slaD => [0xCB#8, 0x22#8]
  | .slaE => [0xCB#8, 0x23#8]
  | .slaH => [0xCB#8, 0x24#8]
  | .slaL => [0xCB#8, 0x25#8]
  | .slaMemHL => [0xCB#8, 0x26#8]
  | .slaA => [0xCB#8, 0x27#8]
  | .sraB => [0xCB#8, 0x28#8]
  | .sraC => [0xCB#8, 0x29#8]
  | .sraD => [0xCB#8, 0x2A#8]
  | .sraE => [0xCB#8, 0x2B#8]
  | .sraH => [0xCB#8, 0x2C#8]
  | .sraL => [0xCB#8, 0x2D#8]
  | .sraMemHL => [0xCB#8, 0x2E#8]
  | .sraA => [0xCB#8, 0x2F#8]
  | .swapB => [0xCB#8, 0x30#8]
  | .swapC => [0xCB#8, 0x31#8]
  | .swapD => [0xCB#8, 0x32#8]
  | .swapE => [0xCB#8, 0x33#8]
  | .swapH => [0xCB#8, 0x34#8]
  | .swapL => [0xCB#8, 0x35#8]
  | .swapMemHL => [0xCB#8, 0x36#8]
  | .swapA => [0xCB#8, 0x37#8]
  | .srlB => [0xCB#8, 0x38#8]
  | .srlC => [0xCB#8, 0x39#8]
  | .srlD => [0xCB#8, 0x3A#8]
  | .srlE => [0xCB#8, 0x3B#8]
  | .srlH => [0xCB#8, 0x3C#8]
  | .srlL => [0xCB#8, 0x3D#8]
  | .srlMemHL => [0xCB#8, 0x3E#8]
  | .srlA => [0xCB#8, 0x3F#8]
  | .bit0_B => [0xCB#8, 0x40#8]
  | .bit0_C => [0xCB#8, 0x41#8]
  | .bit0_D => [0xCB#8, 0x42#8]
  | .bit0_E => [0xCB#8, 0x43#8]
  | .bit0_H => [0xCB#8, 0x44#8]
  | .bit0_L => [0xCB#8, 0x45#8]
  | .bit0_MemHL => [0xCB#8, 0x46#8]
  | .bit0_A => [0xCB#8, 0x47#8]
  | .bit1_B => [0xCB#8, 0x48#8]
  | .bit1_C => [0xCB#8, 0x49#8]
  | .bit1_D => [0xCB#8, 0x4A#8]
  | .bit1_E => [0xCB#8, 0x4B#8]
  | .bit1_H => [0xCB#8, 0x4C#8]
  | .bit1_L => [0xCB#8, 0x4D#8]
  | .bit1_MemHL => [0xCB#8, 0x4E#8]
  | .bit1_A => [0xCB#8, 0x4F#8]
  | .bit2_B => [0xCB#8, 0x50#8]
  | .bit2_C => [0xCB#8, 0x51#8]
  | .bit2_D => [0xCB#8, 0x52#8]
  | .bit2_E => [0xCB#8, 0x53#8]
  | .bit2_H => [0xCB#8, 0x54#8]
  | .bit2_L => [0xCB#8, 0x55#8]
  | .bit2_MemHL => [0xCB#8, 0x56#8]
  | .bit2_A => [0xCB#8, 0x57#8]
  | .bit3_B => [0xCB#8, 0x58#8]
  | .bit3_C => [0xCB#8, 0x59#8]
  | .bit3_D => [0xCB#8, 0x5A#8]
  | .bit3_E => [0xCB#8, 0x5B#8]
  | .bit3_H => [0xCB#8, 0x5C#8]
  | .bit3_L => [0xCB#8, 0x5D#8]
  | .bit3_MemHL => [0xCB#8, 0x5E#8]
  | .bit3_A => [0xCB#8, 0x5F#8]
  | .bit4_B => [0xCB#8, 0x60#8]
  | .bit4_C => [0xCB#8, 0x61#8]
  | .bit4_D => [0xCB#8, 0x62#8]
  | .bit4_E => [0xCB#8, 0x63#8]
  | .bit4_H => [0xCB#8, 0x64#8]
  | .bit4_L => [0xCB#8, 0x65#8]
  | .bit4_MemHL => [0xCB#8, 0x66#8]
  | .bit4_A => [0xCB#8, 0x67#8]
  | .bit5_B => [0xCB#8, 0x68#8]
  | .bit5_C => [0xCB#8, 0x69#8]
  | .bit5_D => [0xCB#8, 0x6A#8]
  | .bit5_E => [0xCB#8, 0x6B#8]
  | .bit5_H => [0xCB#8, 0x6C#8]
  | .bit5_L => [0xCB#8, 0x6D#8]
  | .bit5_MemHL => [0xCB#8, 0x6E#8]
  | .bit5_A => [0xCB#8, 0x6F#8]
  | .bit6_B => [0xCB#8, 0x70#8]
  | .bit6_C => [0xCB#8, 0x71#8]
  | .bit6_D => [0xCB#8, 0x72#8]
  | .bit6_E => [0xCB#8, 0x73#8]
  | .bit6_H => [0xCB#8, 0x74#8]
  | .bit6_L => [0xCB#8, 0x75#8]
  | .bit6_MemHL => [0xCB#8, 0x76#8]
  | .bit6_A => [0xCB#8, 0x77#8]
  | .bit7_B => [0xCB#8, 0x78#8]
  | .bit7_C => [0xCB#8, 0x79#8]
  | .bit7_D => [0xCB#8, 0x7A#8]
  | .bit7_E => [0xCB#8, 0x7B#8]
  | .bit7_H => [0xCB#8, 0x7C#8]
  | .bit7_L => [0xCB#8, 0x7D#8]
  | .bit7_MemHL => [0xCB#8, 0x7E#8]
  | .bit7_A => [0xCB#8, 0x7F#8]
  | .res0_B => [0xCB#8, 0x80#8]
  | .res0_C => [0xCB#8, 0x81#8]
  | .res0_D => [0xCB#8, 0x82#8]
  | .res0_E => [0xCB#8, 0x83#8]
  | .res0_H => [0xCB#8, 0x84#8]
  | .res0_L => [0xCB#8, 0x85#8]
  | .res0_MemHL => [0xCB#8, 0x86#8]
  | .res0_A => [0xCB#8, 0x87#8]
  | .res1_B => [0xCB#8, 0x88#8]
  | .res1_C => [0xCB#8, 0x89#8]
  | .res1_D => [0xCB#8, 0x8A#8]
  | .res1_E => [0xCB#8, 0x8B#8]
  | .res1_H => [0xCB#8, 0x8C#8]
  | .res1_L => [0xCB#8, 0x8D#8]
  | .res1_MemHL => [0xCB#8, 0x8E#8]
  | .res1_A => [0xCB#8, 0x8F#8]
  | .res2_B => [0xCB#8, 0x90#8]
  | .res2_C => [0xCB#8, 0x91#8]
  | .res2_D => [0xCB#8, 0x92#8]
  | .res2_E => [0xCB#8, 0x93#8]
  | .res2_H => [0xCB#8, 0x94#8]
  | .res2_L => [0xCB#8, 0x95#8]
  | .res2_MemHL => [0xCB#8, 0x96#8]
  | .res2_A => [0xCB#8, 0x97#8]
  | .res3_B => [0xCB#8, 0x98#8]
  | .res3_C => [0xCB#8, 0x99#8]
  | .res3_D => [0xCB#8, 0x9A#8]
  | .res3_E => [0xCB#8, 0x9B#8]
  | .res3_H => [0xCB#8, 0x9C#8]
  | .res3_L => [0xCB#8, 0x9D#8]
  | .res3_MemHL => [0xCB#8, 0x9E#8]
  | .res3_A => [0xCB#8, 0x9F#8]
  | .res4_B => [0xCB#8, 0xA0#8]
  | .res4_C => [0xCB#8, 0xA1#8]
  | .res4_D => [0xCB#8, 0xA2#8]
  | .res4_E => [0xCB#8, 0xA3#8]
  | .res4_H => [0xCB#8, 0xA4#8]
  | .res4_L => [0xCB#8, 0xA5#8]
  | .res4_MemHL => [0xCB#8, 0xA6#8]
  | .res4_A => [0xCB#8, 0xA7#8]
  | .res5_B => [0xCB#8, 0xA8#8]
  | .res5_C => [0xCB#8, 0xA9#8]
  | .res5_D => [0xCB#8, 0xAA#8]
  | .res5_E => [0xCB#8, 0xAB#8]
  | .res5_H => [0xCB#8, 0xAC#8]
  | .res5_L => [0xCB#8, 0xAD#8]
  | .res5_MemHL => [0xCB#8, 0xAE#8]
  | .res5_A => [0xCB#8, 0xAF#8]
  | .res6_B => [0xCB#8, 0xB0#8]
  | .res6_C => [0xCB#8, 0xB1#8]
  | .res6_D => [0xCB#8, 0xB2#8]
  | .res6_E => [0xCB#8, 0xB3#8]
  | .res6_H => [0xCB#8, 0xB4#8]
  | .res6_L => [0xCB#8, 0xB5#8]
  | .res6_MemHL => [0xCB#8, 0xB6#8]
  | .res6_A => [0xCB#8, 0xB7#8]
  | .res7_B => [0xCB#8, 0xB8#8]
  | .res7_C => [0xCB#8, 0xB9#8]
  | .res7_D => [0xCB#8, 0xBA#8]
  | .res7_E => [0xCB#8, 0xBB#8]
  | .res7_H => [0xCB#8, 0xBC#8]
  | .res7_L => [0xCB#8, 0xBD#8]
  | .res7_MemHL => [0xCB#8, 0xBE#8]
  | .res7_A => [0xCB#8, 0xBF#8]
  | .set0_B => [0xCB#8, 0xC0#8]
  | .set0_C => [0xCB#8, 0xC1#8]
  | .set0_D => [0xCB#8, 0xC2#8]
  | .set0_E => [0xCB#8, 0xC3#8]
  | .set0_H => [0xCB#8, 0xC4#8]
  | .set0_L => [0xCB#8, 0xC5#8]
  | .set0_MemHL => [0xCB#8, 0xC6#8]
  | .set0_A => [0xCB#8, 0xC7#8]
  | .set1_B => [0xCB#8, 0xC8#8]
  | .set1_C => [0xCB#8, 0xC9#8]
  | .set1_D => [0xCB#8, 0xCA#8]
  | .set1_E => [0xCB#8, 0xCB#8]
  | .set1_H => [0xCB#8, 0xCC#8]
  | .set1_L => [0xCB#8, 0xCD#8]
  | .set1_MemHL => [0xCB#8, 0xCE#8]
  | .set1_A => [0xCB#8, 0xCF#8]
  | .set2_B => [0xCB#8, 0xD0#8]
  | .set2_C => [0xCB#8, 0xD1#8]
  | .set2_D => [0xCB#8, 0xD2#8]
  | .set2_E => [0xCB#8, 0xD3#8]
  | .set2_H => [0xCB#8, 0xD4#8]
  | .set2_L => [0xCB#8, 0xD5#8]
  | .set2_MemHL => [0xCB#8, 0xD6#8]
  | .set2_A => [0xCB#8, 0xD7#8]
  | .set3_B => [0xCB#8, 0xD8#8]
  | .set3_C => [0xCB#8, 0xD9#8]
  | .set3_D => [0xCB#8, 0xDA#8]
  | .set3_E => [0xCB#8, 0xDB#8]
  | .set3_H => [0xCB#8, 0xDC#8]
  | .set3_L => [0xCB#8, 0xDD#8]
  | .set3_MemHL => [0xCB#8, 0xDE#8]
  | .set3_A => [0xCB#8, 0xDF#8]
  | .set4_B => [0xCB#8, 0xE0#8]
  | .set4_C => [0xCB#8, 0xE1#8]
  | .set4_D => [0xCB#8, 0xE2#8]
  | .set4_E => [0xCB#8, 0xE3#8]
  | .set4_H => [0xCB#8, 0xE4#8]
  | .set4_L => [0xCB#8, 0xE5#8]
  | .set4_MemHL => [0xCB#8, 0xE6#8]
  | .set4_A => [0xCB#8, 0xE7#8]
  | .set5_B => [0xCB#8, 0xE8#8]
  | .set5_C => [0xCB#8, 0xE9#8]
  | .set5_D => [0xCB#8, 0xEA#8]
  | .set5_E => [0xCB#8, 0xEB#8]
  | .set5_H => [0xCB#8, 0xEC#8]
  | .set5_L => [0xCB#8, 0xED#8]
  | .set5_MemHL => [0xCB#8, 0xEE#8]
  | .set5_A => [0xCB#8, 0xEF#8]
  | .set6_B => [0xCB#8, 0xF0#8]
  | .set6_C => [0xCB#8, 0xF1#8]
  | .set6_D => [0xCB#8, 0xF2#8]
  | .set6_E => [0xCB#8, 0xF3#8]
  | .set6_H => [0xCB#8, 0xF4#8]
  | .set6_L => [0xCB#8, 0xF5#8]
  | .set6_MemHL => [0xCB#8, 0xF6#8]
  | .set6_A => [0xCB#8, 0xF7#8]
  | .set7_B => [0xCB#8, 0xF8#8]
  | .set7_C => [0xCB#8, 0xF9#8]
  | .set7_D => [0xCB#8, 0xFA#8]
  | .set7_E => [0xCB#8, 0xFB#8]
  | .set7_H => [0xCB#8, 0xFC#8]
  | .set7_L => [0xCB#8, 0xFD#8]
  | .set7_MemHL => [0xCB#8, 0xFE#8]
  | .set7_A => [0xCB#8, 0xFF#8]

/-- The three bytes an instruction word of spec/opcode_table.json stands for, the bits above it zero: a word of the
secondary page is written with the prefix in the high half (R161); any other has its first byte lowest. DESIGN CHOICE (log 8). -/
def tableBytes (nbits w : Nat) : List Byte :=
  if nbits = 16 ∧ w / 256 % 256 = 0xCB then [0xCB#8, BitVec.ofNat 8 w, 0#8]
  else [BitVec.ofNat 8 w, BitVec.ofNat 8 (w / 256), BitVec.ofNat 8 (w / 65536)]

/-- The instruction the decoder reads from a word of the opcode table. -/
def decodeTableWord (nbits w : Nat) : Option Instr :=
  match decode (tableBytes nbits w) with
  | .ok (i, _) => some i
  | .error _ => none

end Sys2Proof
end

