-- ==== Sys2Proof/Config.lean ====
section
/-! DEFINITION. What one machine keeps fixed: the constants of the spec, the named parameters of 00_scope.md R6, the
register-file shape they speak of, and the offsets of the I/O registers (10_state.md R48 to R69). -/

namespace Sys2Proof

/-- The ten CPU registers (10_state.md R20); also the shape of `RESET_REGS` (R31). -/
structure Regs where
  a : Byte
  f : Byte
  b : Byte
  c : Byte
  d : Byte
  e : Byte
  h : Byte
  l : Byte
  sp : Word
  pc : Word
  deriving DecidableEq, Repr

/-- The sizes of the external-RAM table (20_memory.md R107). -/
inductive EramSize where
  | absent
  | kib2
  | kib8
  | kib32
  | kib128
  deriving DecidableEq, Repr

/-- The size in bytes (R107). -/
def EramSize.bytes : EramSize → Nat
  | .absent => 0
  | .kib2 => 0x800
  | .kib8 => 0x2000
  | .kib32 => 0x8000
  | .kib128 => 0x20000

/-- One colour as four bytes (60_exceptions.md R406). -/
structure Rgba where
  r : Byte
  g : Byte
  b : Byte
  a : Byte
  deriving DecidableEq, Repr

/-- The parameters of R6 that the model keeps as arguments: no step changes them, and a statement for every state
holds for every value of them. -/
structure Params where
  /-- `RESET_REGS` (10_state.md R31). -/
  resetRegs : Regs
  /-- `RESET_IO` (R70): the cells of the I/O block that are not 0x00, by offset. -/
  resetIo : List Host.Cell
  /-- `RESET_IO` (R70): `IE`. -/
  resetIe : Byte
  /-- `SP_GUARD_THRESHOLD` (60_exceptions.md R340), OPEN; 0 disables the guard. -/
  spGuardThreshold : Word
  /-- `ERAM_DEFAULT_SIZE` (20_memory.md R107), OPEN. -/
  eramDefaultSize : EramSize
  /-- `LAYERS_ENABLED` (60_exceptions.md R408). -/
  layersEnabled : Bool
  /-- `SHADE_RGBA[0..3]` (R406). -/
  shade0 : Rgba
  shade1 : Rgba
  shade2 : Rgba
  shade3 : Rgba
  deriving DecidableEq, Repr

/-- The default `RESET_REGS` (10_state.md R31). -/
def Config.resetRegs : Regs :=
  { a := 0x01#8, f := 0xB0#8, b := 0x00#8, c := 0x13#8, d := 0x00#8, e := 0xD8#8, h := 0x01#8, l := 0x4D#8,
    sp := 0xFFFE#16, pc := 0x0100#16 }

/-- The default `RESET_IO` (R70): `LCDC`, `STAT`, `BGP`, `OBP0`, `OBP1`; every other cell is 0x00. -/
def Config.resetIo : List Host.Cell :=
  [(0x40, 0x91#8), (0x41, 0x06#8), (0x47, 0xFC#8), (0x48, 0xFF#8), (0x49, 0xFF#8)]

/-- The parameters `State.reset` is built with: the defaults of R6; for the two OPEN ones the values of log 2
(`ERAM_DEFAULT_SIZE` absent) and log 3 (`SP_GUARD_THRESHOLD` 0, the guard off). DESIGN CHOICE (log 2, 3, 4). -/
def Config.defaultParams : Params :=
  { resetRegs := Config.resetRegs, resetIo := Config.resetIo, resetIe := 0x00#8
    spGuardThreshold := 0x0000#16, eramDefaultSize := .absent, layersEnabled := true
    shade0 := ⟨0xFF#8, 0xFF#8, 0xFF#8, 0xFF#8⟩, shade1 := ⟨0xAA#8, 0xAA#8, 0xAA#8, 0xFF#8⟩
    shade2 := ⟨0x55#8, 0x55#8, 0x55#8, 0xFF#8⟩, shade3 := ⟨0x00#8, 0x00#8, 0x00#8, 0xFF#8⟩ }

namespace Config

/-- `HALT_IDLE_CYCLES` (R6, 60_exceptions.md R332). -/
abbrev haltIdleCycles : Nat := 4
/-- `INT_DISPATCH_CYCLES` (R6, R339). -/
abbrev intDispatchCycles : Nat := 20
/-- `FRAME_CYCLES` (R6, 70_reset_and_hazards.md R463). -/
abbrev frameCycles : Nat := 70224
/-- Cycles of one scanline (60_exceptions.md R381, R387). -/
abbrev lineCycles : Nat := 456
/-- `dot` at which mode 3 begins (R385). -/
abbrev drawingDot : Nat := 80
/-- `dot` at which mode 0 begins: 80 + 172 (R386). -/
abbrev hblankDot : Nat := 252
/-- Scanlines of a frame (R381). -/
abbrev frameLines : Nat := 154
/-- The first scanline of vertical blank (R383). -/
abbrev vblankLine : Nat := 144
/-- Columns of a line (R399). -/
abbrev screenWidth : Nat := 160
/-- Cycles of one divider increment (R362). -/
abbrev dividerPeriod : Nat := 256

end Config

/-! The offsets of the I/O registers in the block at 0xFF00 (10_state.md R48 to R69). -/
namespace Io

abbrev p1 : Nat := 0x00
abbrev div : Nat := 0x04
abbrev tima : Nat := 0x05
abbrev tma : Nat := 0x06
abbrev tac : Nat := 0x07
abbrev ifl : Nat := 0x0F
abbrev lcdc : Nat := 0x40
abbrev stat : Nat := 0x41
abbrev scy : Nat := 0x42
abbrev scx : Nat := 0x43
abbrev ly : Nat := 0x44
abbrev lyc : Nat := 0x45
abbrev dma : Nat := 0x46
abbrev bgp : Nat := 0x47
abbrev obp0 : Nat := 0x48
abbrev obp1 : Nat := 0x49
abbrev wy : Nat := 0x4A
abbrev wx : Nat := 0x4B
abbrev vbk : Nat := 0x4F
abbrev hdma1 : Nat := 0x51
abbrev hdma2 : Nat := 0x52
abbrev hdma3 : Nat := 0x53
abbrev hdma4 : Nat := 0x54
abbrev hdma5 : Nat := 0x55
abbrev bcps : Nat := 0x68
abbrev bcpd : Nat := 0x69
abbrev ocps : Nat := 0x6A
abbrev ocpd : Nat := 0x6B
abbrev svbk : Nat := 0x70

end Io

end Sys2Proof
end

