-- ==== Sys2Proof/Machine/State.lean ====
section
/-! DEFINITION. The machine's state as plain data (10_state.md, 20_memory.md, 70_reset_and_hazards.md R451), the reasons a
step can stop, and the state right after `construct()` (R450). -/

namespace Sys2Proof.Machine

/-- A byte array as a sparse list of (index, byte) cells: indices strictly rising, no cell equal to what an unlisted
index reads as (`Memory.blank`; the form is `Memory.wf`, both in Machine/Memory.lean). -/
abbrev Memory := List Host.Cell

/-- `CART_KIND` (20_memory.md R106). -/
inductive CartKind where
  | romOnly
  | mbc1
  deriving DecidableEq, Repr

/-- The banking-mode flag (10_state.md R42): 0 is simple, 1 is advanced. -/
inductive BankMode where
  | simple
  | advanced
  deriving DecidableEq, Repr

/-- Everything behind the bus: the cartridge, the memories, the I/O block, and the hidden state of the devices. -/
structure Bus where
  /-- `ROM`, `ROM_LEN` (R39): indices at or above `romLen` do not exist (R85). -/
  rom : Memory
  romLen : Nat
  cartKind : CartKind
  /-- `COLOR` (20_memory.md R108). -/
  color : Bool
  eramSize : EramSize
  /-- The cartridge bank state (R42). -/
  romBank : BitVec 7
  ramBank : BitVec 2
  ramEnable : Bool
  bankMode : BankMode
  /-- The color-variant bank state (R44). -/
  vramBank : BitVec 1
  wramBank : BitVec 3
  /-- `VRAM[b][i]` at index `b * 0x2000 + i` (R39). -/
  vram : Memory
  /-- `ERAM[i]` (R39). -/
  eram : Memory
  /-- `WRAM[b][i]` at index `b * 0x1000 + i` (R39). -/
  wram : Memory
  oam : Memory
  /-- `IO[o]` by offset `o` (R46). -/
  io : Memory
  hram : Memory
  /-- `IE` (R60). -/
  ie : Byte
  bgPal : Memory
  objPal : Memory
  /-- `div_acc`, `tima_acc` (R71). -/
  divAcc : Nat
  timaAcc : Nat
  /-- `buttons`, active-low (R72). -/
  buttons : Byte
  /-- `dot` (R73). -/
  dot : Nat
  /-- The VRAM-DMA unit (R76). -/
  hdmaSrc : Word
  hdmaDst : Word
  hdmaLen : Nat
  hdmaActive : Bool
  /-- `FB` by scanline (R39, 60_exceptions.md R407): lines rising, 640 bytes each; a line that is not listed holds 0x00 in
  every byte, and no listed line does. -/
  fb : List (Nat × List Byte)
  deriving DecidableEq, Repr

/-- The whole machine. -/
structure State where
  regs : Regs
  /-- `ime`, `ime_scheduled`, `halted`, `locked` (R34, R35, R36, R38). -/
  ime : Bool
  imeScheduled : Bool
  halted : Bool
  locked : Bool
  bus : Bus
  /-- `cycles` (R37). -/
  cycles : BitVec 32
  /-- The model's own: the cost the last CPU step returned (60_exceptions.md R330). DESIGN CHOICE (log 6). -/
  stepCost : Nat
  /-- The model's own: the `frame_ready` output of the last PPU step (R75). DESIGN CHOICE (log 6). -/
  frameReady : Bool
  /-- `running`, the host's run gate (R77). -/
  running : Bool
  /-- The parameters of this machine (00_scope.md R6); no step changes them. -/
  params : Params
  deriving DecidableEq, Repr

/-- Why a step ends without a next state. -/
inductive Fault where
  /-- `IllegalOpcode(op)` (46_system.md R317, 60_exceptions.md R345): raised by the eleven illegal opcodes. `left` is the
  state the fault leaves: `locked` set, `PC` after the opcode, nothing else changed. Safe: the hardware has no further
  step either (log 5). -/
  | illegalOpcode (op : Byte) (left : State)
  /-- Raised by `step` on a machine with `locked = 1` (R333 (a), R345): there is no step. Safe. -/
  | locked (at_ : State)
  deriving DecidableEq, Repr

/-- Why an instruction or a host operation is given no meaning. -/
inductive Refusal where
  /-- An instruction of the opcode table with no meaning yet: raised by `exec`'s arms only. Safe. -/
  | notModelled (mnemonic : String)
  /-- The header's cartridge-type byte names no scheme of the spec (20_memory.md R106): raised by the host's `load`. Safe. -/
  | unknownCartridge (kind : Byte)
  /-- `RESET_REGS` or `RESET_IO` breaks an invariant (10_state.md R32, R70): raised by `construct` with such parameters. Safe. -/
  | badParameters
  deriving DecidableEq, Repr

/-- What a CPU step or a meaning answers. -/
abbrev Result := Host.Outcome State Fault Refusal

/-- The bus right after `construct()` (70_reset_and_hazards.md R450, R451): no ROM, so `RomOnly`, not color, and the default
external-RAM size (R454); every RAM cell and `FB` read 0x00. DESIGN CHOICE for
these contents and the default size (log 1, 2). -/
def Bus.reset : Bus :=
  { rom := [], romLen := 0, cartKind := .romOnly, color := false, eramSize := Config.defaultParams.eramDefaultSize
    romBank := 1#7, ramBank := 0#2, ramEnable := false, bankMode := .simple
    vramBank := 0#1, wramBank := 1#3
    vram := [], eram := [], wram := [], oam := [], io := Config.resetIo, hram := [], ie := 0x00#8
    bgPal := [], objPal := []
    divAcc := 0, timaAcc := 0, buttons := 0xFF#8, dot := 0
    hdmaSrc := 0x0000#16, hdmaDst := 0x8000#16, hdmaLen := 0, hdmaActive := false, fb := [] }

/-- The machine right after `construct()` (R450): the reset state of R451 with no ROM loaded and `running = 0`, built
with the default parameters. How a program comes to run from it: log 7. -/
def State.reset : State :=
  { regs := Config.resetRegs, ime := false, imeScheduled := false, halted := false, locked := false
    bus := Bus.reset, cycles := 0#32, stepCost := 0, frameReady := false, running := false
    params := Config.defaultParams }

end Sys2Proof.Machine
end

