-- ==== Sys2Proof/Machine/Memory.lean ====
section
/-! DEFINITION. Reading and writing the sparse byte arrays, and their canonical form. -/

namespace Sys2Proof.Machine

/-- What an index that is not listed reads as. For the RAM arrays and `FB` this stands for the spec's open `RAM_INIT`
(10_state.md R40): DESIGN CHOICE (log 1); for `IO` it is the default of `RESET_IO` (R70). -/
def Memory.blank : Byte := 0x00#8

/-- The byte at an index. -/
def Memory.read : Memory → Nat → Byte
  | [], _ => Memory.blank
  | (k, v) :: t, a => if k = a then v else Memory.read t a

/-- The array with no cell at an index. -/
def Memory.erase : Memory → Nat → Memory
  | [], _ => []
  | (k, v) :: t, a => if k = a then Memory.erase t a else (k, v) :: Memory.erase t a

/-- The array with one more cell, put before the first greater index. -/
def Memory.insert : Memory → Nat → Byte → Memory
  | [], a, v => [(a, v)]
  | (k, w) :: t, a, v => if a < k then (a, v) :: (k, w) :: t else (k, w) :: Memory.insert t a v

/-- Storing a byte: the cell is replaced, or removed where the byte is what an unlisted index reads as. -/
def Memory.write (m : Memory) (a : Nat) (v : Byte) : Memory :=
  if v = Memory.blank then Memory.erase m a else Memory.insert (Memory.erase m a) a v

/-- Every listed index is above `a`. -/
def Memory.above (m : Memory) (a : Nat) : Bool := m.all fun cell => decide (a < cell.1)

/-- The canonical form: indices strictly rising, no cell equal to what an unlisted index reads as. -/
def Memory.wf : Memory → Bool
  | [] => true
  | (k, v) :: t => decide (v ≠ Memory.blank) && Memory.above t k && Memory.wf t

end Sys2Proof.Machine
end

