-- ==== Sys2Proof/Machine/Region.lean ====
section
/-! DEFINITION. The address map (20_memory.md R82), bank selection (R86, R87, R93, R97, R109) and bus reads (R84 to R97). -/

namespace Sys2Proof.Machine

/-- The row of R82 an address belongs to, with the offset inside it; the echo rows are resolved to the work RAM they
mirror (R91, R113). -/
inductive Region where
  | romFixed (i : Nat)
  | romBanked (i : Nat)
  | vram (i : Nat)
  | eram (i : Nat)
  | wramFixed (i : Nat)
  | wramBanked (i : Nat)
  | oam (i : Nat)
  | unusable
  | io (o : Nat)
  | hram (i : Nat)
  | ie
  deriving DecidableEq, Repr

/-- The work-RAM row of an offset from 0xC000 (R90). -/
def wramRegion (i : Nat) : Region := if i < 0x1000 then .wramFixed i else .wramBanked (i - 0x1000)

/-- The table of R82: "a bus address belongs to exactly one row". -/
def region (addr : Word) : Region :=
  let a := addr.toNat
  if a < 0x4000 then .romFixed a
  else if a < 0x8000 then .romBanked (a - 0x4000)
  else if a < 0xA000 then .vram (a - 0x8000)
  else if a < 0xC000 then .eram (a - 0xA000)
  else if a < 0xE000 then wramRegion (a - 0xC000)
  else if a < 0xFE00 then wramRegion (a - 0xE000)
  else if a < 0xFEA0 then .oam (a - 0xFE00)
  else if a < 0xFF00 then .unusable
  else if a < 0xFF80 then .io (a - 0xFF00)
  else if a < 0xFFFF then .hram (a - 0xFF80)
  else .ie

/-- A byte of the arrays behind the address map (10_state.md R39). -/
inductive Cell where
  | rom (i : Nat)
  | vram (i : Nat)
  | eram (i : Nat)
  | wram (i : Nat)
  | oam (i : Nat)
  | io (o : Nat)
  | hram (i : Nat)
  | ie
  | nothing
  deriving DecidableEq, Repr

/-- The bytes a program stores and reads back with no other effect: video, external, work and high RAM and `OAM`. -/
def Cell.isRam : Cell → Bool
  | .vram _ | .eram _ | .wram _ | .oam _ | .hram _ => true
  | .rom _ | .io _ | .ie | .nothing => false

/-- The sentinel of unmapped or disabled regions (R84, R130). -/
def sentinel : Byte := 0xFF#8

namespace Bus

/-- A cell of the I/O block (10_state.md R46). -/
def ioAt (b : Bus) (o : Nat) : Byte := b.io.read o

/-- Storing a cell of the I/O block, with no side effect. -/
def setIo (b : Bus) (o : Nat) (v : Byte) : Bus := { b with io := b.io.write o v }

/-- `IF[i] <- 1` (R53, 00_scope.md R11). -/
def request (b : Bus) (i : Nat) : Bus := b.setIo Io.ifl (withBit (b.ioAt Io.ifl) i)

/-- `RomByte(i)` (R85). -/
def romByte (b : Bus) (i : Nat) : Byte := if i < b.romLen then b.rom.read i else sentinel

/-- `NumRomBanks` (R87). -/
def numRomBanks (b : Bus) : Nat := max 1 ((b.romLen + 0x3FFF) / 0x4000)

/-- `EffRomBank` (R87). -/
def effRomBank (b : Bus) : Nat :=
  match b.cartKind with
  | .romOnly => 1 % b.numRomBanks
  | .mbc1 => b.romBank.toNat % b.numRomBanks

/-- The video-RAM bank for bus accesses (R93). -/
def vramSel (b : Bus) : Nat := if b.color then b.vramBank.toNat else 0

/-- The work-RAM bank for 0xD000-0xDFFF (R97). -/
def wramSel (b : Bus) : Nat := if b.color then b.wramBank.toNat else 1

/-- Where an offset of the video-RAM window lies in `vram` (R88, R110). -/
def vramIndex (b : Bus) (i : Nat) : Nat := b.vramSel * 0x2000 + i

/-- Where an offset of the switchable work-RAM window lies in `wram` (R90, R112). -/
def wramIndex (b : Bus) (i : Nat) : Nat := b.wramSel * 0x1000 + i

/-- `NumRamBanks` (R109). -/
def numRamBanks (b : Bus) : Nat := max 1 (b.eramSize.bytes / 0x2000)

/-- `EramIndex` (R109) of an offset from 0xA000; used only where the size is not 0. -/
def eramIndex (b : Bus) (i : Nat) : Nat := ((b.ramBank.toNat % b.numRamBanks) * 0x2000 + i) % b.eramSize.bytes

/-- External RAM answers: enabled and present (R89, R111). -/
def eramVisible (b : Bus) : Bool := b.ramEnable && decide (b.eramSize.bytes ≠ 0)

/-- The select bits of the joypad register (60_exceptions.md R372). -/
def joypadSelect (b : Bus) : Byte := b.ioAt Io.p1 &&& 0x30#8

/-- The composed low nibble of the joypad register (R372). -/
def joypadLow (b : Bus) : Byte :=
  let dirs := if bitAt b.joypadSelect 4 then 0x0F#8 else b.buttons &&& 0x0F#8
  let acts := if bitAt b.joypadSelect 5 then 0x0F#8 else b.buttons >>> 4
  0x0F#8 &&& dirs &&& acts

/-- What a read of 0xFF00 returns (R372). -/
def joypadValue (b : Bus) : Byte := 0xC0#8 ||| b.joypadSelect ||| b.joypadLow

/-- What a read of 0xFF55 returns on the color variant (R427). An armed copy with no block left, which R76 and R426 rule out,
reads 0x7F: DESIGN CHOICE (log 21). -/
def hdmaStatus (b : Bus) : Byte :=
  if b.hdmaActive then (BitVec.ofNat 8 b.hdmaLen - 1#8) &&& 0x7F#8
  else if b.hdmaLen = 0 then 0xFF#8
  else 0x80#8 ||| ((BitVec.ofNat 8 b.hdmaLen - 1#8) &&& 0x7F#8)

/-- The index a palette index register holds in bits 5:0 (10_state.md R64, R66). -/
def palIndex (b : Bus) (o : Nat) : Nat := (b.ioAt o).toNat % 64

/-- The byte a read of an I/O offset returns (R95). -/
def readIo (b : Bus) (o : Nat) : Byte :=
  if o = Io.p1 then b.joypadValue
  else if b.color then
    if o = Io.hdma5 then b.hdmaStatus
    else if o = Io.bcpd then b.bgPal.read (b.palIndex Io.bcps)
    else if o = Io.ocpd then b.objPal.read (b.palIndex Io.ocps)
    else b.ioAt o
  else b.ioAt o

/-- The byte a bus read of an address returns (R84). -/
def peek (b : Bus) (addr : Word) : Byte :=
  match region addr with
  | .romFixed i => b.romByte i
  | .romBanked i => b.romByte (b.effRomBank * 0x4000 + i)
  | .vram i => b.vram.read (b.vramIndex i)
  | .eram i => if b.eramVisible then b.eram.read (b.eramIndex i) else sentinel
  | .wramFixed i => b.wram.read i
  | .wramBanked i => b.wram.read (b.wramIndex i)
  | .oam i => b.oam.read i
  | .unusable => sentinel
  | .io o => b.readIo o
  | .hram i => b.hram.read i
  | .ie => b.ie

/-- The array and the index an address stands for, after bank selection and mirroring (R82, R84): two addresses with one cell
are two names of one byte. -/
def cell (b : Bus) (addr : Word) : Cell :=
  match region addr with
  | .romFixed i => .rom i
  | .romBanked i => .rom (b.effRomBank * 0x4000 + i)
  | .vram i => .vram (b.vramIndex i)
  | .eram i => if b.eramVisible then .eram (b.eramIndex i) else .nothing
  | .wramFixed i => .wram i
  | .wramBanked i => .wram (b.wramIndex i)
  | .oam i => .oam i
  | .unusable => .nothing
  | .io o => .io o
  | .hram i => .hram i
  | .ie => .ie

/-- The side effect of a bus read (R122): only a read of 0xFF00 has one, the joypad request of R372. -/
def afterRead (b : Bus) (addr : Word) : Bus :=
  if addr = 0xFF00#16 ∧ b.joypadLow ≠ 0x0F#8 then b.request 4 else b

end Bus

end Sys2Proof.Machine
end

