-- ==== Sys2Proof/Machine/Dma.lean ====
section
/-! DEFINITION. The two DMA units' copies (60_exceptions.md R420, R425, R426). -/

namespace Sys2Proof.Machine.Bus

/-- The first `n` bytes of the OAM DMA from page `page`, in order, each read through the bus decode with its side effect (R420). -/
def oamCopy (b : Bus) (page : Byte) : Nat → Bus
  | 0 => b
  | n + 1 =>
    let b' := b.oamCopy page n
    let src := mkWord page 0x00#8 + BitVec.ofNat 16 n
    { b'.afterRead src with oam := b'.oam.write n (b'.peek src) }

/-- The OAM DMA (R420): 160 bytes. -/
def oamDma (b : Bus) (page : Byte) : Bus := b.oamCopy page 160

/-- Storing one byte of the VRAM DMA: a destination outside 0x8000-0x9FFF drops it (R425). -/
def hdmaStore (b : Bus) (d : Word) (v : Byte) : Bus :=
  match region d with
  | .vram i => { b with vram := b.vram.write (b.vramIndex i) v }
  | _ => b

/-- The first `n` bytes of the VRAM DMA, in order (R425). -/
def hdmaBytes (b : Bus) (src dst : Word) : Nat → Bus
  | 0 => b
  | n + 1 =>
    let b' := b.hdmaBytes src dst n
    let s := src + BitVec.ofNat 16 n
    (b'.afterRead s).hdmaStore (dst + BitVec.ofNat 16 n) (b'.peek s)

/-- `HdmaCopy(k)` (R425). -/
def hdmaCopy (b : Bus) (k : Nat) : Bus :=
  let b' := b.hdmaBytes b.hdmaSrc b.hdmaDst k
  { b' with hdmaSrc := b.hdmaSrc + BitVec.ofNat 16 k, hdmaDst := b.hdmaDst + BitVec.ofNat 16 k }

/-- The chunk at an H-blank transition (R426). -/
def hblankChunk (b : Bus) : Bus :=
  if b.color && b.hdmaActive then
    let b' := b.hdmaCopy 16
    let len := b'.hdmaLen - 1
    { b' with hdmaLen := len, hdmaActive := decide (len ≠ 0) }
  else b

end Sys2Proof.Machine.Bus
end

