-- ==== Sys2Proof/Machine/Bus.lean ====
section
/-! DEFINITION. Bus writes: the cartridge controller, the memories, the I/O block (20_memory.md R98 to R117; 10_state.md R48 to
R69; 60_exceptions.md R424). -/

namespace Sys2Proof.Machine.Bus

/-- A write to 0x0000-0x7FFF on an `Mbc1` cartridge, by address window (R102 to R105). -/
def writeMbc1 (b : Bus) (a : Nat) (v : Byte) : Bus :=
  if a < 0x2000 then { b with ramEnable := decide (lowNibble v = 0xA) }
  else if a < 0x4000 then
    let n : BitVec 5 := v.extractLsb' 0 5
    let low : BitVec 5 := if n = 0#5 then 1#5 else n
    { b with romBank := (b.romBank.extractLsb' 5 2 : BitVec 2) ++ low }
  else if a < 0x6000 then
    match b.bankMode with
    | .simple => { b with romBank := (v.extractLsb' 0 2 : BitVec 2) ++ (b.romBank.extractLsb' 0 5 : BitVec 5) }
    | .advanced => { b with ramBank := v.extractLsb' 0 2 }
  else { b with bankMode := if bitAt v 0 then .advanced else .simple }

/-- A write to 0x0000-0x7FFF: `ROM` is never changed (R100); without a controller it is dropped (R101). -/
def writeRom (b : Bus) (a : Nat) (v : Byte) : Bus :=
  match b.cartKind with
  | .romOnly => b
  | .mbc1 => b.writeMbc1 a v

/-- The palette index register after a data write (10_state.md R65): bits 5:0 move on by one, wrapping at 64, if bit 7 is set. -/
def palAdvance (ps : Byte) : Byte :=
  if bitAt ps 7 then (ps &&& 0xC0#8) ||| ((ps + 1#8) &&& 0x3F#8) else ps

/-- The VRAM-DMA control write (60_exceptions.md R424). -/
def writeHdma5 (b : Bus) (v : Byte) : Bus :=
  let b := b.setIo Io.hdma5 v
  let n := v.toNat % 128 + 1
  if b.hdmaActive && !bitAt v 7 then { b with hdmaActive := false }
  else if bitAt v 7 then { b with hdmaLen := n, hdmaActive := true }
  else { b.hdmaCopy (16 * n) with hdmaLen := 0, hdmaActive := false }

/-- `wram_bank` from a write to `SVBK` (R69). -/
def svbkBank (v : Byte) : BitVec 3 :=
  let n : BitVec 3 := v.extractLsb' 0 3
  if n = 0#3 then 1#3 else n

/-- A write to an offset of the color variant's registers (R61 to R69), or to any other plain cell. -/
def writeIoColor (b : Bus) (o : Nat) (v : Byte) : Bus :=
  if o = Io.vbk then { b.setIo o v with vramBank := v.extractLsb' 0 1 }
  else if o = Io.hdma1 then { b.setIo o v with hdmaSrc := mkWord v (loByte b.hdmaSrc) }
  else if o = Io.hdma2 then { b.setIo o v with hdmaSrc := mkWord (hiByte b.hdmaSrc) (v &&& 0xF0#8) }
  else if o = Io.hdma3 then { b.setIo o v with hdmaDst := mkWord (0x80#8 ||| (v &&& 0x1F#8)) (loByte b.hdmaDst) }
  else if o = Io.hdma4 then { b.setIo o v with hdmaDst := mkWord (hiByte b.hdmaDst) (v &&& 0xF0#8) }
  else if o = Io.hdma5 then b.writeHdma5 v
  else if o = Io.bcpd then
    { b.setIo Io.bcps (palAdvance (b.ioAt Io.bcps)) with bgPal := b.bgPal.write (b.palIndex Io.bcps) v }
  else if o = Io.ocpd then
    { b.setIo Io.ocps (palAdvance (b.ioAt Io.ocps)) with objPal := b.objPal.write (b.palIndex Io.ocps) v }
  else if o = Io.svbk then { b.setIo o v with wramBank := svbkBank v }
  else b.setIo o v

/-- A write to 0xFF00-0xFF7F (R116). -/
def writeIo (b : Bus) (o : Nat) (v : Byte) : Bus :=
  if o = Io.p1 then b.setIo o (v &&& 0x30#8)
  else if o = Io.div then { b.setIo o 0x00#8 with divAcc := 0 }
  else if o = Io.stat then b.setIo o ((v &&& 0xF8#8) ||| (b.ioAt Io.stat &&& 0x07#8))
  else if o = Io.ly then b
  else if o = Io.dma then (b.setIo o v).oamDma v
  else if b.color then b.writeIoColor o v
  else b.setIo o v

/-- `MemWrite(addr, 1, v)` (R98): the write rule of the address's region; a write with no target is dropped. -/
def write (b : Bus) (addr : Word) (v : Byte) : Bus :=
  match region addr with
  | .romFixed _ | .romBanked _ => b.writeRom addr.toNat v
  | .vram i => { b with vram := b.vram.write (b.vramIndex i) v }
  | .eram i => if b.eramVisible then { b with eram := b.eram.write (b.eramIndex i) v } else b
  | .wramFixed i => { b with wram := b.wram.write i v }
  | .wramBanked i => { b with wram := b.wram.write (b.wramIndex i) v }
  | .oam i => { b with oam := b.oam.write i v }
  | .unusable => b
  | .io o => b.writeIo o v
  | .hram i => { b with hram := b.hram.write i v }
  | .ie => { b with ie := v }

end Sys2Proof.Machine.Bus
end

