-- ==== Sys2Proof/Machine/Flags.lean ====
section
/-! DEFINITION. The flags byte and every result and flag computation of the arithmetic, logic, rotate and bit families (10_state.md
R28, R29; 42_alu8.md; 43_alu16.md; 44_rotate_shift_bit.md). Sums and differences are taken on unbounded naturals (`wide`, R8). -/

namespace Sys2Proof.Machine

/-- `fZ fN fH fC` (R28). -/
structure Flags where
  z : Bool
  n : Bool
  h : Bool
  c : Bool
  deriving DecidableEq, Repr

/-- `F` from its four flags: bits 7, 6, 5, 4; the low nibble is zero (R28). -/
def Flags.toByte (fl : Flags) : Byte :=
  BitVec.ofBool fl.z ++ BitVec.ofBool fl.n ++ BitVec.ofBool fl.h ++ BitVec.ofBool fl.c ++ 0#4

/-- The four flags of `F` (R28). -/
def flagsOf (f : Byte) : Flags := { z := bitAt f 7, n := bitAt f 6, h := bitAt f 5, c := bitAt f 4 }

/-- A condition `cc` under the flags (30_encoding.md R145). -/
def condHolds (fl : Flags) : Cond → Bool
  | .nz => !fl.z
  | .z => fl.z
  | .nc => !fl.c
  | .c => fl.c

/-- `A + s + c` with its flags (R216, R217). -/
def addWithCarry (a s : Byte) (c : Bool) : Byte × Flags :=
  let w := a.toNat + s.toNat + c.toNat
  let r := BitVec.ofNat 8 w
  (r, { z := decide (r = 0#8), n := false, h := decide (lowNibble a + lowNibble s + c.toNat > 0xF), c := decide (w > 0xFF) })

/-- `A - s - c` with its flags, `H` and `C` being borrows (R218, R219). -/
def subWithCarry (a s : Byte) (c : Bool) : Byte × Flags :=
  let r := a - s - BitVec.ofNat 8 c.toNat
  (r, { z := decide (r = 0#8), n := true, h := decide (lowNibble a < lowNibble s + c.toNat), c := decide (a.toNat < s.toNat + c.toNat) })

/-- A logic result with its flags (R220 to R222). -/
def logicResult (r : Byte) (h : Bool) : Byte × Flags := (r, { z := decide (r = 0#8), n := false, h := h, c := false })

/-- The eight accumulator operations (R216 to R223): the new `A` and the flags; `CP` keeps `A`. -/
def alu (op : AluOp) (a s : Byte) (c : Bool) : Byte × Flags :=
  match op with
  | .add => addWithCarry a s false
  | .adc => addWithCarry a s c
  | .sub => subWithCarry a s false
  | .sbc => subWithCarry a s c
  | .and => logicResult (a &&& s) true
  | .xor => logicResult (a ^^^ s) false
  | .or => logicResult (a ||| s) false
  | .cp => (a, (subWithCarry a s false).2)

/-- `INC` (R224): `fC` is kept. -/
def incByte (v : Byte) (fl : Flags) : Byte × Flags :=
  (v + 1#8, { z := decide (v = 0xFF#8), n := false, h := decide (lowNibble v = 0xF), c := fl.c })

/-- `DEC` (R226): `fC` is kept. -/
def decByte (v : Byte) (fl : Flags) : Byte × Flags :=
  (v - 1#8, { z := decide (v = 0x01#8), n := true, h := decide (lowNibble v = 0x0), c := fl.c })

/-- `DAA` (R228): both tests use the old `A`. -/
def daa (a : Byte) (fl : Flags) : Byte × Flags :=
  let low := fl.h || (!fl.n && decide (lowNibble a > 9))
  let high := fl.c || (!fl.n && decide (a.toNat > 0x99))
  let adj := (if low then 0x06#8 else 0x00#8) ||| (if high then 0x60#8 else 0x00#8)
  let r := if fl.n then a - adj else a + adj
  (r, { z := decide (r = 0#8), n := fl.n, h := false, c := high })

/-- `HL + v` with its flags (R251): `fZ` is kept. -/
def addWords (x v : Word) (fl : Flags) : Word × Flags :=
  (x + v, { z := fl.z, n := false, h := decide (x.toNat % 0x1000 + v.toNat % 0x1000 > 0xFFF), c := decide (x.toNat + v.toNat > 0xFFFF) })

/-- `SP + sext(e)` with its flags (R204, R254): both carries are of the unsigned low-byte addition. -/
def addOffset (sp : Word) (e : Byte) : Word × Flags :=
  (sp + sext16 e,
    { z := false, n := false, h := decide (lowNibble (loByte sp) + lowNibble e > 0xF), c := decide ((loByte sp).toNat + e.toNat > 0xFF) })

/-- The rotates, shifts and `SWAP` (R261 to R273): the result and the new carry. -/
def rotate (op : RotOp) (v : Byte) (c : Bool) : Byte × Bool :=
  let cin : Byte := BitVec.setWidth 8 (BitVec.ofBool c)
  let b7 : Byte := v >>> 7
  let b0 : Byte := v &&& 1#8
  match op with
  | .rlc => ((v <<< 1) ||| b7, bitAt v 7)
  | .rrc => ((v >>> 1) ||| (b0 <<< 7), bitAt v 0)
  | .rl => ((v <<< 1) ||| cin, bitAt v 7)
  | .rr => ((v >>> 1) ||| (cin <<< 7), bitAt v 0)
  | .sla => (v <<< 1, bitAt v 7)
  | .sra => ((v >>> 1) ||| (v &&& 0x80#8), bitAt v 0)
  | .swap => ((v <<< 4) ||| (v >>> 4), false)
  | .srl => (v >>> 1, bitAt v 0)

/-- The flags of the accumulator rotates (R261 to R264): `fZ` is cleared. -/
def rotateAFlags (c : Bool) : Flags := { z := false, n := false, h := false, c := c }

/-- The flags of the secondary page's rotates and shifts (R266 to R273). -/
def rotateFlags (r : Byte) (c : Bool) : Flags := { z := decide (r = 0#8), n := false, h := false, c := c }

/-- The flags of `BIT` (R274): `fC` is kept. -/
def bitFlags (v : Byte) (i : Nat) (fl : Flags) : Flags := { z := !bitAt v i, n := false, h := true, c := fl.c }

end Sys2Proof.Machine
end

