-- ==== Sys2Proof/Machine/Operands.lean ====
section
/-! DEFINITION. The operand forms: registers, pairs, the byte at `HL`, bus reads and writes of the whole machine
(00_scope.md R9, R10; 10_state.md R23, R24; 30_encoding.md R143, R144). -/

namespace Sys2Proof

/-- `AF`, `BC`, `DE`, `HL` (10_state.md R23): the first-named register is the high byte. -/
def Regs.af (r : Regs) : Word := Machine.mkWord r.a r.f
def Regs.bc (r : Regs) : Word := Machine.mkWord r.b r.c
def Regs.de (r : Regs) : Word := Machine.mkWord r.d r.e
def Regs.hl (r : Regs) : Word := Machine.mkWord r.h r.l

/-- Writing a pair writes both of its registers (R23). -/
def Regs.setBc (r : Regs) (v : Word) : Regs := { r with b := Machine.hiByte v, c := Machine.loByte v }
def Regs.setDe (r : Regs) (v : Word) : Regs := { r with d := Machine.hiByte v, e := Machine.loByte v }
def Regs.setHl (r : Regs) (v : Word) : Regs := { r with h := Machine.hiByte v, l := Machine.loByte v }

/-- Writing `AF` clears the low nibble of `F` (R24). -/
def Regs.setAf (r : Regs) (v : Word) : Regs :=
  { r with a := Machine.hiByte v, f := Machine.loByte v &&& 0xF0#8 }

/-- A register of the generic selector (00_scope.md R9). -/
def Regs.get (r : Regs) : Reg8 → Byte
  | .b => r.b
  | .c => r.c
  | .d => r.d
  | .e => r.e
  | .h => r.h
  | .l => r.l
  | .a => r.a

/-- Writing a register of the generic selector. -/
def Regs.set (r : Regs) (i : Reg8) (v : Byte) : Regs :=
  match i with
  | .b => { r with b := v }
  | .c => { r with c := v }
  | .d => { r with d := v }
  | .e => { r with e := v }
  | .h => { r with h := v }
  | .l => { r with l := v }
  | .a => { r with a := v }

/-- A pair of the table `rr` (R144). -/
def Regs.pair (r : Regs) : Pair → Word
  | .bc => r.bc
  | .de => r.de
  | .hl => r.hl
  | .sp => r.sp

/-- Writing a pair of the table `rr`. -/
def Regs.setPair (r : Regs) (p : Pair) (v : Word) : Regs :=
  match p with
  | .bc => r.setBc v
  | .de => r.setDe v
  | .hl => r.setHl v
  | .sp => { r with sp := v }

/-- A pair of the table `qq` (R144). -/
def Regs.stackPair (r : Regs) : StackPair → Word
  | .bc => r.bc
  | .de => r.de
  | .hl => r.hl
  | .af => r.af

/-- Writing a pair of the table `qq`. -/
def Regs.setStackPair (r : Regs) (q : StackPair) (v : Word) : Regs :=
  match q with
  | .bc => r.setBc v
  | .de => r.setDe v
  | .hl => r.setHl v
  | .af => r.setAf v

namespace Machine.State

def bc (s : State) : Word := s.regs.bc
def de (s : State) : Word := s.regs.de
def hl (s : State) : Word := s.regs.hl

/-- The flags of `F`. -/
def flags (s : State) : Flags := flagsOf s.regs.f

/-- Writing all of `F` from its four flags (10_state.md R28). -/
def setFlags (s : State) (fl : Flags) : State := { s with regs := { s.regs with f := fl.toByte } }

def setReg (s : State) (i : Reg8) (v : Byte) : State := { s with regs := s.regs.set i v }
def setPair (s : State) (p : Pair) (v : Word) : State := { s with regs := s.regs.setPair p v }
def setStackPair (s : State) (q : StackPair) (v : Word) : State := { s with regs := s.regs.setStackPair q v }
def setSp (s : State) (v : Word) : State := { s with regs := { s.regs with sp := v } }
def setPc (s : State) (v : Word) : State := { s with regs := { s.regs with pc := v } }

/-- `MemRead(addr, 1)` with its side effect (00_scope.md R10). -/
def readMem (s : State) (addr : Word) : Byte × State := (s.bus.peek addr, { s with bus := s.bus.afterRead addr })

/-- `MemWrite(addr, 1, v)` with its side effects (R10). -/
def writeMem (s : State) (addr : Word) (v : Byte) : State := { s with bus := s.bus.write addr v }

/-- Reading `x[i]`: a register, or the byte at `HL` (00_scope.md R9). -/
def readOperand (s : State) : Operand8 → Byte × State
  | .reg r => (s.regs.get r, s)
  | .memHL => s.readMem s.hl

/-- `x[i] <- v` (R9). -/
def writeOperand (s : State) (o : Operand8) (v : Byte) : State :=
  match o with
  | .reg r => s.setReg r v
  | .memHL => s.writeMem s.hl v

end Machine.State

end Sys2Proof
end

