-- ==== Sys2Proof/Machine/Ops.lean ====
section
/-! DEFINITION. The shared operations: ending an instruction, the stack, fetching bytes, taking an interrupt and returning from
one, the halted step, the commit of `EI`, the one fault (00_scope.md R10, R12; 60_exceptions.md R332 to R345; 46_system.md R317). -/

namespace Sys2Proof.Machine

/-- `cycles(n)` (00_scope.md R11): the instruction ends, and the CPU step returns the cost `n`. -/
def finish (n : Nat) (s : State) : Result := .next { s with stepCost := n }

/-- `raise IllegalOpcode(op)` (46_system.md R317): `locked <- 1`, `PC` stays after the opcode byte, nothing else changes and there
is no next state. -/
def raiseIllegal (op : Byte) (s : State) : Result := .fault (.illegalOpcode op { s with locked := true })

namespace State

/-- `Push16(v)` (R12): the high byte first, at `SP - 1`, then the low byte at `SP - 2`. -/
def push16 (s : State) (v : Word) : State :=
  let s1 := (s.setSp (s.regs.sp - 1#16)).writeMem (s.regs.sp - 1#16) (hiByte v)
  (s1.setSp (s1.regs.sp - 1#16)).writeMem (s1.regs.sp - 1#16) (loByte v)

/-- `Pop16()` (R12): the low byte at `SP`, then the high byte at `SP + 1`. -/
def pop16 (s : State) : Word × State :=
  let lo := s.readMem s.regs.sp
  let s1 := lo.2.setSp (lo.2.regs.sp + 1#16)
  let hi := s1.readMem s1.regs.sp
  (mkWord hi.1 lo.1, hi.2.setSp (hi.2.regs.sp + 1#16))

/-- `Fetch8()` (R10): an ordinary bus read at `PC`, then `PC` moves on by one. -/
def fetch8 (s : State) : Byte × State :=
  let r := s.readMem s.regs.pc
  (r.1, r.2.setPc (r.2.regs.pc + 1#16))

/-- `IF` and `IE` (10_state.md R53, R60). -/
def ifl (s : State) : Byte := s.bus.ioAt Io.ifl

/-- The pending enabled requests: `IF & IE & 0x1F` (R334). -/
def pendingBits (s : State) : Byte := s.ifl &&& s.bus.ie &&& 0x1F#8

/-- "Pending" (R334). -/
def pending (s : State) : Bool := decide (s.pendingBits ≠ 0x00#8)

/-- Writing `IF` from inside the CPU. -/
def setIfl (s : State) (v : Byte) : State := { s with bus := s.bus.setIo Io.ifl v }

/-- `if ime_scheduled = 1: ime <- 1; ime_scheduled <- 0` (R333 (b)). -/
def commitIme (s : State) : State := if s.imeScheduled then { s with ime := true, imeScheduled := false } else s

/-- The CPU step while halted (R332): the request test ignores `ime`; one idle step in either case. -/
def haltedStep (s : State) : State :=
  { s with halted := !s.pending, stepCost := Config.haltIdleCycles }

/-- The guard's effect (R340): all of `IF` is cleared, nothing else changes. -/
def discardRequests (s : State) : State := s.setIfl 0x00#8

end State

/-- The lowest set index below 5 of a request byte (R338); 4 if none lower is set. -/
def lowestRequest (v : Byte) : Nat :=
  if bitAt v 0 then 0 else if bitAt v 1 then 1 else if bitAt v 2 then 2 else if bitAt v 3 then 3 else 4

/-- The vector of source `i` (R337): `0x0040 + 8 * i`. -/
def vector (i : Nat) : Word := BitVec.ofNat 16 (0x40 + 8 * i)

/-- TAKING AN INTERRUPT (R339), in the rule's order: `ime` cleared, the request bit cleared, `PC` pushed, `PC` at the vector. -/
def takeInterrupt (s : State) : State :=
  let i := lowestRequest s.pendingBits
  let s1 := ({ s with ime := false } : State).setIfl (withoutBit s.ifl i)
  let s2 := (s1.push16 s1.regs.pc).setPc (vector i)
  { s2 with stepCost := Config.intDispatchCycles }

/-- RETURNING FROM AN INTERRUPT (45_control.md R300, R342): `PC <- Pop16(); ime <- 1`. -/
def returnFromInterrupt (s : State) : State :=
  let r := s.pop16
  { r.2.setPc r.1 with ime := true }

end Sys2Proof.Machine
end

