-- ==== Sys2Proof/Machine/Alu16.lean ====
section
/-! DEFINITION. 16-bit arithmetic (43_alu16.md R250 to R254). -/

namespace Sys2Proof.Machine

/-- `ADD HL,rr` (R251). -/
def addHlForm (p : Pair) (s : State) : Result :=
  let r := addWords s.hl (s.regs.pair p) s.flags
  finish 8 ((s.setPair .hl r.1).setFlags r.2)

/-- `INC rr` (R252). -/
def incPairForm (p : Pair) (s : State) : Result := finish 8 (s.setPair p (s.regs.pair p + 1#16))

/-- `DEC rr` (R253). -/
def decPairForm (p : Pair) (s : State) : Result := finish 8 (s.setPair p (s.regs.pair p - 1#16))

/-- `ADD SP,r8` (R254). -/
def addSpForm (e : Byte) (s : State) : Result :=
  let r := addOffset s.regs.sp e
  finish 16 ((s.setSp r.1).setFlags r.2)

/-! The meanings, one per row of the opcode table. -/

/-- `INC BC` (R252). -/
def execIncBC (s : State) : Result := incPairForm .bc s
/-- `ADD HL,BC` (R251). -/
def execAddHL_BC (s : State) : Result := addHlForm .bc s
/-- `DEC BC` (R253). -/
def execDecBC (s : State) : Result := decPairForm .bc s
/-- `INC DE` (R252). -/
def execIncDE (s : State) : Result := incPairForm .de s
/-- `ADD HL,DE` (R251). -/
def execAddHL_DE (s : State) : Result := addHlForm .de s
/-- `DEC DE` (R253). -/
def execDecDE (s : State) : Result := decPairForm .de s
/-- `INC HL` (R252). -/
def execIncHL (s : State) : Result := incPairForm .hl s
/-- `ADD HL,HL` (R251). -/
def execAddHL_HL (s : State) : Result := addHlForm .hl s
/-- `DEC HL` (R253). -/
def execDecHL (s : State) : Result := decPairForm .hl s
/-- `INC SP` (R252). -/
def execIncSP (s : State) : Result := incPairForm .sp s
/-- `ADD HL,SP` (R251). -/
def execAddHL_SP (s : State) : Result := addHlForm .sp s
/-- `DEC SP` (R253). -/
def execDecSP (s : State) : Result := decPairForm .sp s
/-- `ADD SP,r8` (R254). -/
def execAddSP_r8 (e : Byte) (s : State) : Result := addSpForm e s

end Sys2Proof.Machine
end

