-- ==== Sys2Proof/Machine/Alu8.lean ====
section
/-! DEFINITION. 8-bit arithmetic and logic (42_alu8.md R215 to R232). -/

namespace Sys2Proof.Machine

/-- The cost of a form by its operand: a register, or the byte at `HL` (30_encoding.md R156, R157). -/
def operandCost (o : Operand8) (reg mem : Nat) : Nat :=
  match o with
  | .reg _ => reg
  | .memHL => mem

/-- One accumulator operation on an operand that has been read (R215 to R223). -/
def accumulate (op : AluOp) (v : Byte) (s : State) : State :=
  let r := alu op s.regs.a v s.flags.c
  (s.setReg .a r.1).setFlags r.2

/-- The accumulator operations with `r` or `(HL)` (R215). -/
def aluForm (op : AluOp) (o : Operand8) (s : State) : Result :=
  let r := s.readOperand o
  finish (operandCost o 4 8) (accumulate op r.1 r.2)

/-- The accumulator operations with `d8` (R215). -/
def aluImmForm (op : AluOp) (n : Byte) (s : State) : Result := finish 8 (accumulate op n s)

/-- `INC r`, `INC (HL)` (R224, R225). -/
def incForm (o : Operand8) (s : State) : Result :=
  let r := s.readOperand o
  let v := incByte r.1 r.2.flags
  finish (operandCost o 4 12) ((r.2.writeOperand o v.1).setFlags v.2)

/-- `DEC r`, `DEC (HL)` (R226, R227). -/
def decForm (o : Operand8) (s : State) : Result :=
  let r := s.readOperand o
  let v := decByte r.1 r.2.flags
  finish (operandCost o 4 12) ((r.2.writeOperand o v.1).setFlags v.2)

/-- `DAA` (R228). -/
def daaForm (s : State) : Result :=
  let r := Sys2Proof.Machine.daa s.regs.a s.flags
  finish 4 ((s.setReg .a r.1).setFlags r.2)

/-- `CPL` (R229). -/
def cplForm (s : State) : Result :=
  finish 4 ((s.setReg .a (~~~s.regs.a)).setFlags { s.flags with n := true, h := true })

/-- `SCF` (R230). -/
def scfForm (s : State) : Result := finish 4 (s.setFlags { s.flags with n := false, h := false, c := true })

/-- `CCF` (R231). -/
def ccfForm (s : State) : Result := finish 4 (s.setFlags { s.flags with n := false, h := false, c := !s.flags.c })

/-! The meanings, one per row of the opcode table. -/

/-- `INC B` (R224). -/
def execIncB (s : State) : Result := incForm (.reg .b) s
/-- `DEC B` (R226). -/
def execDecB (s : State) : Result := decForm (.reg .b) s
/-- `INC C` (R224). -/
def execIncC (s : State) : Result := incForm (.reg .c) s
/-- `DEC C` (R226). -/
def execDecC (s : State) : Result := decForm (.reg .c) s
/-- `INC D` (R224). -/
def execIncD (s : State) : Result := incForm (.reg .d) s
/-- `DEC D` (R226). -/
def execDecD (s : State) : Result := decForm (.reg .d) s
/-- `INC E` (R224). -/
def execIncE (s : State) : Result := incForm (.reg .e) s
/-- `DEC E` (R226). -/
def execDecE (s : State) : Result := decForm (.reg .e) s
/-- `INC H` (R224). -/
def execIncH (s : State) : Result := incForm (.reg .h) s
/-- `DEC H` (R226). -/
def execDecH (s : State) : Result := decForm (.reg .h) s
/-- `DAA` (R228). -/
def execDaa (s : State) : Result := daaForm s
/-- `INC L` (R224). -/
def execIncL (s : State) : Result := incForm (.reg .l) s
/-- `DEC L` (R226). -/
def execDecL (s : State) : Result := decForm (.reg .l) s
/-- `CPL` (R229). -/
def execCpl (s : State) : Result := cplForm s
/-- `INC (HL)` (R225). -/
def execIncMemHL (s : State) : Result := incForm .memHL s
/-- `DEC (HL)` (R227). -/
def execDecMemHL (s : State) : Result := decForm .memHL s
/-- `SCF` (R230). -/
def execScf (s : State) : Result := scfForm s
/-- `INC A` (R224). -/
def execIncA (s : State) : Result := incForm (.reg .a) s
/-- `DEC A` (R226). -/
def execDecA (s : State) : Result := decForm (.reg .a) s
/-- `CCF` (R231). -/
def execCcf (s : State) : Result := ccfForm s
/-- `ADD A,B` (R216). -/
def execAddA_B (s : State) : Result := aluForm .add (.reg .b) s
/-- `ADD A,C` (R216). -/
def execAddA_C (s : State) : Result := aluForm .add (.reg .c) s
/-- `ADD A,D` (R216). -/
def execAddA_D (s : State) : Result := aluForm .add (.reg .d) s
/-- `ADD A,E` (R216). -/
def execAddA_E (s : State) : Result := aluForm .add (.reg .e) s
/-- `ADD A,H` (R216). -/
def execAddA_H (s : State) : Result := aluForm .add (.reg .h) s
/-- `ADD A,L` (R216). -/
def execAddA_L (s : State) : Result := aluForm .add (.reg .l) s
/-- `ADD A,(HL)` (R216). -/
def execAddA_MemHL (s : State) : Result := aluForm .add .memHL s
/-- `ADD A,A` (R216). -/
def execAddA_A (s : State) : Result := aluForm .add (.reg .a) s
/-- `ADC A,B` (R217). -/
def execAdcA_B (s : State) : Result := aluForm .adc (.reg .b) s
/-- `ADC A,C` (R217). -/
def execAdcA_C (s : State) : Result := aluForm .adc (.reg .c) s
/-- `ADC A,D` (R217). -/
def execAdcA_D (s : State) : Result := aluForm .adc (.reg .d) s
/-- `ADC A,E` (R217). -/
def execAdcA_E (s : State) : Result := aluForm .adc (.reg .e) s
/-- `ADC A,H` (R217). -/
def execAdcA_H (s : State) : Result := aluForm .adc (.reg .h) s
/-- `ADC A,L` (R217). -/
def execAdcA_L (s : State) : Result := aluForm .adc (.reg .l) s
/-- `ADC A,(HL)` (R217). -/
def execAdcA_MemHL (s : State) : Result := aluForm .adc .memHL s
/-- `ADC A,A` (R217). -/
def execAdcA_A (s : State) : Result := aluForm .adc (.reg .a) s
/-- `SUB B` (R218). -/
def execSubA_B (s : State) : Result := aluForm .sub (.reg .b) s
/-- `SUB C` (R218). -/
def execSubA_C (s : State) : Result := aluForm .sub (.reg .c) s
/-- `SUB D` (R218). -/
def execSubA_D (s : State) : Result := aluForm .sub (.reg .d) s
/-- `SUB E` (R218). -/
def execSubA_E (s : State) : Result := aluForm .sub (.reg .e) s
/-- `SUB H` (R218). -/
def execSubA_H (s : State) : Result := aluForm .sub (.reg .h) s
/-- `SUB L` (R218). -/
def execSubA_L (s : State) : Result := aluForm .sub (.reg .l) s
/-- `SUB (HL)` (R218). -/
def execSubA_MemHL (s : State) : Result := aluForm .sub .memHL s
/-- `SUB A` (R218). -/
def execSubA_A (s : State) : Result := aluForm .sub (.reg .a) s
/-- `SBC A,B` (R219). -/
def execSbcA_B (s : State) : Result := aluForm .sbc (.reg .b) s
/-- `SBC A,C` (R219). -/
def execSbcA_C (s : State) : Result := aluForm .sbc (.reg .c) s
/-- `SBC A,D` (R219). -/
def execSbcA_D (s : State) : Result := aluForm .sbc (.reg .d) s
/-- `SBC A,E` (R219). -/
def execSbcA_E (s : State) : Result := aluForm .sbc (.reg .e) s
/-- `SBC A,H` (R219). -/
def execSbcA_H (s : State) : Result := aluForm .sbc (.reg .h) s
/-- `SBC A,L` (R219). -/
def execSbcA_L (s : State) : Result := aluForm .sbc (.reg .l) s
/-- `SBC A,(HL)` (R219). -/
def execSbcA_MemHL (s : State) : Result := aluForm .sbc .memHL s
/-- `SBC A,A` (R219). -/
def execSbcA_A (s : State) : Result := aluForm .sbc (.reg .a) s
/-- `AND B` (R220). -/
def execAndA_B (s : State) : Result := aluForm .and (.reg .b) s
/-- `AND C` (R220). -/
def execAndA_C (s : State) : Result := aluForm .and (.reg .c) s
/-- `AND D` (R220). -/
def execAndA_D (s : State) : Result := aluForm .and (.reg .d) s
/-- `AND E` (R220). -/
def execAndA_E (s : State) : Result := aluForm .and (.reg .e) s
/-- `AND H` (R220). -/
def execAndA_H (s : State) : Result := aluForm .and (.reg .h) s
/-- `AND L` (R220). -/
def execAndA_L (s : State) : Result := aluForm .and (.reg .l) s
/-- `AND (HL)` (R220). -/
def execAndA_MemHL (s : State) : Result := aluForm .and .memHL s
/-- `AND A` (R220). -/
def execAndA_A (s : State) : Result := aluForm .and (.reg .a) s
/-- `XOR B` (R221). -/
def execXorA_B (s : State) : Result := aluForm .xor (.reg .b) s
/-- `XOR C` (R221). -/
def execXorA_C (s : State) : Result := aluForm .xor (.reg .c) s
/-- `XOR D` (R221). -/
def execXorA_D (s : State) : Result := aluForm .xor (.reg .d) s
/-- `XOR E` (R221). -/
def execXorA_E (s : State) : Result := aluForm .xor (.reg .e) s
/-- `XOR H` (R221). -/
def execXorA_H (s : State) : Result := aluForm .xor (.reg .h) s
/-- `XOR L` (R221). -/
def execXorA_L (s : State) : Result := aluForm .xor (.reg .l) s
/-- `XOR (HL)` (R221). -/
def execXorA_MemHL (s : State) : Result := aluForm .xor .memHL s
/-- `XOR A` (R221). -/
def execXorA_A (s : State) : Result := aluForm .xor (.reg .a) s
/-- `OR B` (R222). -/
def execOrA_B (s : State) : Result := aluForm .or (.reg .b) s
/-- `OR C` (R222). -/
def execOrA_C (s : State) : Result := aluForm .or (.reg .c) s
/-- `OR D` (R222). -/
def execOrA_D (s : State) : Result := aluForm .or (.reg .d) s
/-- `OR E` (R222). -/
def execOrA_E (s : State) : Result := aluForm .or (.reg .e) s
/-- `OR H` (R222). -/
def execOrA_H (s : State) : Result := aluForm .or (.reg .h) s
/-- `OR L` (R222). -/
def execOrA_L (s : State) : Result := aluForm .or (.reg .l) s
/-- `OR (HL)` (R222). -/
def execOrA_MemHL (s : State) : Result := aluForm .or .memHL s
/-- `OR A` (R222). -/
def execOrA_A (s : State) : Result := aluForm .or (.reg .a) s
/-- `CP B` (R223). -/
def execCpA_B (s : State) : Result := aluForm .cp (.reg .b) s
/-- `CP C` (R223). -/
def execCpA_C (s : State) : Result := aluForm .cp (.reg .c) s
/-- `CP D` (R223). -/
def execCpA_D (s : State) : Result := aluForm .cp (.reg .d) s
/-- `CP E` (R223). -/
def execCpA_E (s : State) : Result := aluForm .cp (.reg .e) s
/-- `CP H` (R223). -/
def execCpA_H (s : State) : Result := aluForm .cp (.reg .h) s
/-- `CP L` (R223). -/
def execCpA_L (s : State) : Result := aluForm .cp (.reg .l) s
/-- `CP (HL)` (R223). -/
def execCpA_MemHL (s : State) : Result := aluForm .cp .memHL s
/-- `CP A` (R223). -/
def execCpA_A (s : State) : Result := aluForm .cp (.reg .a) s
/-- `ADD A,d8` (R216). -/
def execAddA_d8 (n : Byte) (s : State) : Result := aluImmForm .add n s
/-- `ADC A,d8` (R217). -/
def execAdcA_d8 (n : Byte) (s : State) : Result := aluImmForm .adc n s
/-- `SUB d8` (R218). -/
def execSubA_d8 (n : Byte) (s : State) : Result := aluImmForm .sub n s
/-- `SBC A,d8` (R219). -/
def execSbcA_d8 (n : Byte) (s : State) : Result := aluImmForm .sbc n s
/-- `AND d8` (R220). -/
def execAndA_d8 (n : Byte) (s : State) : Result := aluImmForm .and n s
/-- `XOR d8` (R221). -/
def execXorA_d8 (n : Byte) (s : State) : Result := aluImmForm .xor n s
/-- `OR d8` (R222). -/
def execOrA_d8 (n : Byte) (s : State) : Result := aluImmForm .or n s
/-- `CP d8` (R223). -/
def execCpA_d8 (n : Byte) (s : State) : Result := aluImmForm .cp n s

end Sys2Proof.Machine
end

