-- ==== Sys2Proof/Machine/BitOps.lean ====
section
/-! DEFINITION. `BIT`, `RES`, `SET` (44_rotate_shift_bit.md R274 to R276). -/

namespace Sys2Proof.Machine

/-- `BIT b,x` (R274): one read and no write. -/
def bitForm (b : Nat) (o : Operand8) (s : State) : Result :=
  let v := s.readOperand o
  finish (operandCost o 8 12) (v.2.setFlags (bitFlags v.1 b v.2.flags))

/-- `RES b,x` (R275): the write happens even if the bit was clear. -/
def resForm (b : Nat) (o : Operand8) (s : State) : Result :=
  let v := s.readOperand o
  finish (operandCost o 8 16) (v.2.writeOperand o (withoutBit v.1 b))

/-- `SET b,x` (R276): the write happens even if the bit was set. -/
def setForm (b : Nat) (o : Operand8) (s : State) : Result :=
  let v := s.readOperand o
  finish (operandCost o 8 16) (v.2.writeOperand o (withBit v.1 b))

/-! The meanings, one per row of the opcode table. -/

/-- `BIT 0,B` (R274). -/
def execBit0_B (s : State) : Result := bitForm 0 (.reg .b) s
/-- `BIT 0,C` (R274). -/
def execBit0_C (s : State) : Result := bitForm 0 (.reg .c) s
/-- `BIT 0,D` (R274). -/
def execBit0_D (s : State) : Result := bitForm 0 (.reg .d) s
/-- `BIT 0,E` (R274). -/
def execBit0_E (s : State) : Result := bitForm 0 (.reg .e) s
/-- `BIT 0,H` (R274). -/
def execBit0_H (s : State) : Result := bitForm 0 (.reg .h) s
/-- `BIT 0,L` (R274). -/
def execBit0_L (s : State) : Result := bitForm 0 (.reg .l) s
/-- `BIT 0,(HL)` (R274). -/
def execBit0_MemHL (s : State) : Result := bitForm 0 .memHL s
/-- `BIT 0,A` (R274). -/
def execBit0_A (s : State) : Result := bitForm 0 (.reg .a) s
/-- `BIT 1,B` (R274). -/
def execBit1_B (s : State) : Result := bitForm 1 (.reg .b) s
/-- `BIT 1,C` (R274). -/
def execBit1_C (s : State) : Result := bitForm 1 (.reg .c) s
/-- `BIT 1,D` (R274). -/
def execBit1_D (s : State) : Result := bitForm 1 (.reg .d) s
/-- `BIT 1,E` (R274). -/
def execBit1_E (s : State) : Result := bitForm 1 (.reg .e) s
/-- `BIT 1,H` (R274). -/
def execBit1_H (s : State) : Result := bitForm 1 (.reg .h) s
/-- `BIT 1,L` (R274). -/
def execBit1_L (s : State) : Result := bitForm 1 (.reg .l) s
/-- `BIT 1,(HL)` (R274). -/
def execBit1_MemHL (s : State) : Result := bitForm 1 .memHL s
/-- `BIT 1,A` (R274). -/
def execBit1_A (s : State) : Result := bitForm 1 (.reg .a) s
/-- `BIT 2,B` (R274). -/
def execBit2_B (s : State) : Result := bitForm 2 (.reg .b) s
/-- `BIT 2,C` (R274). -/
def execBit2_C (s : State) : Result := bitForm 2 (.reg .c) s
/-- `BIT 2,D` (R274). -/
def execBit2_D (s : State) : Result := bitForm 2 (.reg .d) s
/-- `BIT 2,E` (R274). -/
def execBit2_E (s : State) : Result := bitForm 2 (.reg .e) s
/-- `BIT 2,H` (R274). -/
def execBit2_H (s : State) : Result := bitForm 2 (.reg .h) s
/-- `BIT 2,L` (R274). -/
def execBit2_L (s : State) : Result := bitForm 2 (.reg .l) s
/-- `BIT 2,(HL)` (R274). -/
def execBit2_MemHL (s : State) : Result := bitForm 2 .memHL s
/-- `BIT 2,A` (R274). -/
def execBit2_A (s : State) : Result := bitForm 2 (.reg .a) s
/-- `BIT 3,B` (R274). -/
def execBit3_B (s : State) : Result := bitForm 3 (.reg .b) s
/-- `BIT 3,C` (R274). -/
def execBit3_C (s : State) : Result := bitForm 3 (.reg .c) s
/-- `BIT 3,D` (R274). -/
def execBit3_D (s : State) : Result := bitForm 3 (.reg .d) s
/-- `BIT 3,E` (R274). -/
def execBit3_E (s : State) : Result := bitForm 3 (.reg .e) s
/-- `BIT 3,H` (R274). -/
def execBit3_H (s : State) : Result := bitForm 3 (.reg .h) s
/-- `BIT 3,L` (R274). -/
def execBit3_L (s : State) : Result := bitForm 3 (.reg .l) s
/-- `BIT 3,(HL)` (R274). -/
def execBit3_MemHL (s : State) : Result := bitForm 3 .memHL s
/-- `BIT 3,A` (R274). -/
def execBit3_A (s : State) : Result := bitForm 3 (.reg .a) s
/-- `BIT 4,B` (R274). -/
def execBit4_B (s : State) : Result := bitForm 4 (.reg .b) s
/-- `BIT 4,C` (R274). -/
def execBit4_C (s : State) : Result := bitForm 4 (.reg .c) s
/-- `BIT 4,D` (R274). -/
def execBit4_D (s : State) : Result := bitForm 4 (.reg .d) s
/-- `BIT 4,E` (R274). -/
def execBit4_E (s : State) : Result := bitForm 4 (.reg .e) s
/-- `BIT 4,H` (R274). -/
def execBit4_H (s : State) : Result := bitForm 4 (.reg .h) s
/-- `BIT 4,L` (R274). -/
def execBit4_L (s : State) : Result := bitForm 4 (.reg .l) s
/-- `BIT 4,(HL)` (R274). -/
def execBit4_MemHL (s : State) : Result := bitForm 4 .memHL s
/-- `BIT 4,A` (R274). -/
def execBit4_A (s : State) : Result := bitForm 4 (.reg .a) s
/-- `BIT 5,B` (R274). -/
def execBit5_B (s : State) : Result := bitForm 5 (.reg .b) s
/-- `BIT 5,C` (R274). -/
def execBit5_C (s : State) : Result := bitForm 5 (.reg .c) s
/-- `BIT 5,D` (R274). -/
def execBit5_D (s : State) : Result := bitForm 5 (.reg .d) s
/-- `BIT 5,E` (R274). -/
def execBit5_E (s : State) : Result := bitForm 5 (.reg .e) s
/-- `BIT 5,H` (R274). -/
def execBit5_H (s : State) : Result := bitForm 5 (.reg .h) s
/-- `BIT 5,L` (R274). -/
def execBit5_L (s : State) : Result := bitForm 5 (.reg .l) s
/-- `BIT 5,(HL)` (R274). -/
def execBit5_MemHL (s : State) : Result := bitForm 5 .memHL s
/-- `BIT 5,A` (R274). -/
def execBit5_A (s : State) : Result := bitForm 5 (.reg .a) s
/-- `BIT 6,B` (R274). -/
def execBit6_B (s : State) : Result := bitForm 6 (.reg .b) s
/-- `BIT 6,C` (R274). -/
def execBit6_C (s : State) : Result := bitForm 6 (.reg .c) s
/-- `BIT 6,D` (R274). -/
def execBit6_D (s : State) : Result := bitForm 6 (.reg .d) s
/-- `BIT 6,E` (R274). -/
def execBit6_E (s : State) : Result := bitForm 6 (.reg .e) s
/-- `BIT 6,H` (R274). -/
def execBit6_H (s : State) : Result := bitForm 6 (.reg .h) s
/-- `BIT 6,L` (R274). -/
def execBit6_L (s : State) : Result := bitForm 6 (.reg .l) s
/-- `BIT 6,(HL)` (R274). -/
def execBit6_MemHL (s : State) : Result := bitForm 6 .memHL s
/-- `BIT 6,A` (R274). -/
def execBit6_A (s : State) : Result := bitForm 6 (.reg .a) s
/-- `BIT 7,B` (R274). -/
def execBit7_B (s : State) : Result := bitForm 7 (.reg .b) s
/-- `BIT 7,C` (R274). -/
def execBit7_C (s : State) : Result := bitForm 7 (.reg .c) s
/-- `BIT 7,D` (R274). -/
def execBit7_D (s : State) : Result := bitForm 7 (.reg .d) s
/-- `BIT 7,E` (R274). -/
def execBit7_E (s : State) : Result := bitForm 7 (.reg .e) s
/-- `BIT 7,H` (R274). -/
def execBit7_H (s : State) : Result := bitForm 7 (.reg .h) s
/-- `BIT 7,L` (R274). -/
def execBit7_L (s : State) : Result := bitForm 7 (.reg .l) s
/-- `BIT 7,(HL)` (R274). -/
def execBit7_MemHL (s : State) : Result := bitForm 7 .memHL s
/-- `BIT 7,A` (R274). -/
def execBit7_A (s : State) : Result := bitForm 7 (.reg .a) s
/-- `RES 0,B` (R275). -/
def execRes0_B (s : State) : Result := resForm 0 (.reg .b) s
/-- `RES 0,C` (R275). -/
def execRes0_C (s : State) : Result := resForm 0 (.reg .c) s
/-- `RES 0,D` (R275). -/
def execRes0_D (s : State) : Result := resForm 0 (.reg .d) s
/-- `RES 0,E` (R275). -/
def execRes0_E (s : State) : Result := resForm 0 (.reg .e) s
/-- `RES 0,H` (R275). -/
def execRes0_H (s : State) : Result := resForm 0 (.reg .h) s
/-- `RES 0,L` (R275). -/
def execRes0_L (s : State) : Result := resForm 0 (.reg .l) s
/-- `RES 0,(HL)` (R275). -/
def execRes0_MemHL (s : State) : Result := resForm 0 .memHL s
/-- `RES 0,A` (R275). -/
def execRes0_A (s : State) : Result := resForm 0 (.reg .a) s
/-- `RES 1,B` (R275). -/
def execRes1_B (s : State) : Result := resForm 1 (.reg .b) s
/-- `RES 1,C` (R275). -/
def execRes1_C (s : State) : Result := resForm 1 (.reg .c) s
/-- `RES 1,D` (R275). -/
def execRes1_D (s : State) : Result := resForm 1 (.reg .d) s
/-- `RES 1,E` (R275). -/
def execRes1_E (s : State) : Result := resForm 1 (.reg .e) s
/-- `RES 1,H` (R275). -/
def execRes1_H (s : State) : Result := resForm 1 (.reg .h) s
/-- `RES 1,L` (R275). -/
def execRes1_L (s : State) : Result := resForm 1 (.reg .l) s
/-- `RES 1,(HL)` (R275). -/
def execRes1_MemHL (s : State) : Result := resForm 1 .memHL s
/-- `RES 1,A` (R275). -/
def execRes1_A (s : State) : Result := resForm 1 (.reg .a) s
/-- `RES 2,B` (R275). -/
def execRes2_B (s : State) : Result := resForm 2 (.reg .b) s
/-- `RES 2,C` (R275). -/
def execRes2_C (s : State) : Result := resForm 2 (.reg .c) s
/-- `RES 2,D` (R275). -/
def execRes2_D (s : State) : Result := resForm 2 (.reg .d) s
/-- `RES 2,E` (R275). -/
def execRes2_E (s : State) : Result := resForm 2 (.reg .e) s
/-- `RES 2,H` (R275). -/
def execRes2_H (s : State) : Result := resForm 2 (.reg .h) s
/-- `RES 2,L` (R275). -/
def execRes2_L (s : State) : Result := resForm 2 (.reg .l) s
/-- `RES 2,(HL)` (R275). -/
def execRes2_MemHL (s : State) : Result := resForm 2 .memHL s
/-- `RES 2,A` (R275). -/
def execRes2_A (s : State) : Result := resForm 2 (.reg .a) s
/-- `RES 3,B` (R275). -/
def execRes3_B (s : State) : Result := resForm 3 (.reg .b) s
/-- `RES 3,C` (R275). -/
def execRes3_C (s : State) : Result := resForm 3 (.reg .c) s
/-- `RES 3,D` (R275). -/
def execRes3_D (s : State) : Result := resForm 3 (.reg .d) s
/-- `RES 3,E` (R275). -/
def execRes3_E (s : State) : Result := resForm 3 (.reg .e) s
/-- `RES 3,H` (R275). -/
def execRes3_H (s : State) : Result := resForm 3 (.reg .h) s
/-- `RES 3,L` (R275). -/
def execRes3_L (s : State) : Result := resForm 3 (.reg .l) s
/-- `RES 3,(HL)` (R275). -/
def execRes3_MemHL (s : State) : Result := resForm 3 .memHL s
/-- `RES 3,A` (R275). -/
def execRes3_A (s : State) : Result := resForm 3 (.reg .a) s
/-- `RES 4,B` (R275). -/
def execRes4_B (s : State) : Result := resForm 4 (.reg .b) s
/-- `RES 4,C` (R275). -/
def execRes4_C (s : State) : Result := resForm 4 (.reg .c) s
/-- `RES 4,D` (R275). -/
def execRes4_D (s : State) : Result := resForm 4 (.reg .d) s
/-- `RES 4,E` (R275). -/
def execRes4_E (s : State) : Result := resForm 4 (.reg .e) s
/-- `RES 4,H` (R275). -/
def execRes4_H (s : State) : Result := resForm 4 (.reg .h) s
/-- `RES 4,L` (R275). -/
def execRes4_L (s : State) : Result := resForm 4 (.reg .l) s
/-- `RES 4,(HL)` (R275). -/
def execRes4_MemHL (s : State) : Result := resForm 4 .memHL s
/-- `RES 4,A` (R275). -/
def execRes4_A (s : State) : Result := resForm 4 (.reg .a) s
/-- `RES 5,B` (R275). -/
def execRes5_B (s : State) : Result := resForm 5 (.reg .b) s
/-- `RES 5,C` (R275). -/
def execRes5_C (s : State) : Result := resForm 5 (.reg .c) s
/-- `RES 5,D` (R275). -/
def execRes5_D (s : State) : Result := resForm 5 (.reg .d) s
/-- `RES 5,E` (R275). -/
def execRes5_E (s : State) : Result := resForm 5 (.reg .e) s
/-- `RES 5,H` (R275). -/
def execRes5_H (s : State) : Result := resForm 5 (.reg .h) s
/-- `RES 5,L` (R275). -/
def execRes5_L (s : State) : Result := resForm 5 (.reg .l) s
/-- `RES 5,(HL)` (R275). -/
def execRes5_MemHL (s : State) : Result := resForm 5 .memHL s
/-- `RES 5,A` (R275). -/
def execRes5_A (s : State) : Result := resForm 5 (.reg .a) s
/-- `RES 6,B` (R275). -/
def execRes6_B (s : State) : Result := resForm 6 (.reg .b) s
/-- `RES 6,C` (R275). -/
def execRes6_C (s : State) : Result := resForm 6 (.reg .c) s
/-- `RES 6,D` (R275). -/
def execRes6_D (s : State) : Result := resForm 6 (.reg .d) s
/-- `RES 6,E` (R275). -/
def execRes6_E (s : State) : Result := resForm 6 (.reg .e) s
/-- `RES 6,H` (R275). -/
def execRes6_H (s : State) : Result := resForm 6 (.reg .h) s
/-- `RES 6,L` (R275). -/
def execRes6_L (s : State) : Result := resForm 6 (.reg .l) s
/-- `RES 6,(HL)` (R275). -/
def execRes6_MemHL (s : State) : Result := resForm 6 .memHL s
/-- `RES 6,A` (R275). -/
def execRes6_A (s : State) : Result := resForm 6 (.reg .a) s
/-- `RES 7,B` (R275). -/
def execRes7_B (s : State) : Result := resForm 7 (.reg .b) s
/-- `RES 7,C` (R275). -/
def execRes7_C (s : State) : Result := resForm 7 (.reg .c) s
/-- `RES 7,D` (R275). -/
def execRes7_D (s : State) : Result := resForm 7 (.reg .d) s
/-- `RES 7,E` (R275). -/
def execRes7_E (s : State) : Result := resForm 7 (.reg .e) s
/-- `RES 7,H` (R275). -/
def execRes7_H (s : State) : Result := resForm 7 (.reg .h) s
/-- `RES 7,L` (R275). -/
def execRes7_L (s : State) : Result := resForm 7 (.reg .l) s
/-- `RES 7,(HL)` (R275). -/
def execRes7_MemHL (s : State) : Result := resForm 7 .memHL s
/-- `RES 7,A` (R275). -/
def execRes7_A (s : State) : Result := resForm 7 (.reg .a) s
/-- `SET 0,B` (R276). -/
def execSet0_B (s : State) : Result := setForm 0 (.reg .b) s
/-- `SET 0,C` (R276). -/
def execSet0_C (s : State) : Result := setForm 0 (.reg .c) s
/-- `SET 0,D` (R276). -/
def execSet0_D (s : State) : Result := setForm 0 (.reg .d) s
/-- `SET 0,E` (R276). -/
def execSet0_E (s : State) : Result := setForm 0 (.reg .e) s
/-- `SET 0,H` (R276). -/
def execSet0_H (s : State) : Result := setForm 0 (.reg .h) s
/-- `SET 0,L` (R276). -/
def execSet0_L (s : State) : Result := setForm 0 (.reg .l) s
/-- `SET 0,(HL)` (R276). -/
def execSet0_MemHL (s : State) : Result := setForm 0 .memHL s
/-- `SET 0,A` (R276). -/
def execSet0_A (s : State) : Result := setForm 0 (.reg .a) s
/-- `SET 1,B` (R276). -/
def execSet1_B (s : State) : Result := setForm 1 (.reg .b) s
/-- `SET 1,C` (R276). -/
def execSet1_C (s : State) : Result := setForm 1 (.reg .c) s
/-- `SET 1,D` (R276). -/
def execSet1_D (s : State) : Result := setForm 1 (.reg .d) s
/-- `SET 1,E` (R276). -/
def execSet1_E (s : State) : Result := setForm 1 (.reg .e) s
/-- `SET 1,H` (R276). -/
def execSet1_H (s : State) : Result := setForm 1 (.reg .h) s
/-- `SET 1,L` (R276). -/
def execSet1_L (s : State) : Result := setForm 1 (.reg .l) s
/-- `SET 1,(HL)` (R276). -/
def execSet1_MemHL (s : State) : Result := setForm 1 .memHL s
/-- `SET 1,A` (R276). -/
def execSet1_A (s : State) : Result := setForm 1 (.reg .a) s
/-- `SET 2,B` (R276). -/
def execSet2_B (s : State) : Result := setForm 2 (.reg .b) s
/-- `SET 2,C` (R276). -/
def execSet2_C (s : State) : Result := setForm 2 (.reg .c) s
/-- `SET 2,D` (R276). -/
def execSet2_D (s : State) : Result := setForm 2 (.reg .d) s
/-- `SET 2,E` (R276). -/
def execSet2_E (s : State) : Result := setForm 2 (.reg .e) s
/-- `SET 2,H` (R276). -/
def execSet2_H (s : State) : Result := setForm 2 (.reg .h) s
/-- `SET 2,L` (R276). -/
def execSet2_L (s : State) : Result := setForm 2 (.reg .l) s
/-- `SET 2,(HL)` (R276). -/
def execSet2_MemHL (s : State) : Result := setForm 2 .memHL s
/-- `SET 2,A` (R276). -/
def execSet2_A (s : State) : Result := setForm 2 (.reg .a) s
/-- `SET 3,B` (R276). -/
def execSet3_B (s : State) : Result := setForm 3 (.reg .b) s
/-- `SET 3,C` (R276). -/
def execSet3_C (s : State) : Result := setForm 3 (.reg .c) s
/-- `SET 3,D` (R276). -/
def execSet3_D (s : State) : Result := setForm 3 (.reg .d) s
/-- `SET 3,E` (R276). -/
def execSet3_E (s : State) : Result := setForm 3 (.reg .e) s
/-- `SET 3,H` (R276). -/
def execSet3_H (s : State) : Result := setForm 3 (.reg .h) s
/-- `SET 3,L` (R276). -/
def execSet3_L (s : State) : Result := setForm 3 (.reg .l) s
/-- `SET 3,(HL)` (R276). -/
def execSet3_MemHL (s : State) : Result := setForm 3 .memHL s
/-- `SET 3,A` (R276). -/
def execSet3_A (s : State) : Result := setForm 3 (.reg .a) s
/-- `SET 4,B` (R276). -/
def execSet4_B (s : State) : Result := setForm 4 (.reg .b) s
/-- `SET 4,C` (R276). -/
def execSet4_C (s : State) : Result := setForm 4 (.reg .c) s
/-- `SET 4,D` (R276). -/
def execSet4_D (s : State) : Result := setForm 4 (.reg .d) s
/-- `SET 4,E` (R276). -/
def execSet4_E (s : State) : Result := setForm 4 (.reg .e) s
/-- `SET 4,H` (R276). -/
def execSet4_H (s : State) : Result := setForm 4 (.reg .h) s
/-- `SET 4,L` (R276). -/
def execSet4_L (s : State) : Result := setForm 4 (.reg .l) s
/-- `SET 4,(HL)` (R276). -/
def execSet4_MemHL (s : State) : Result := setForm 4 .memHL s
/-- `SET 4,A` (R276). -/
def execSet4_A (s : State) : Result := setForm 4 (.reg .a) s
/-- `SET 5,B` (R276). -/
def execSet5_B (s : State) : Result := setForm 5 (.reg .b) s
/-- `SET 5,C` (R276). -/
def execSet5_C (s : State) : Result := setForm 5 (.reg .c) s
/-- `SET 5,D` (R276). -/
def execSet5_D (s : State) : Result := setForm 5 (.reg .d) s
/-- `SET 5,E` (R276). -/
def execSet5_E (s : State) : Result := setForm 5 (.reg .e) s
/-- `SET 5,H` (R276). -/
def execSet5_H (s : State) : Result := setForm 5 (.reg .h) s
/-- `SET 5,L` (R276). -/
def execSet5_L (s : State) : Result := setForm 5 (.reg .l) s
/-- `SET 5,(HL)` (R276). -/
def execSet5_MemHL (s : State) : Result := setForm 5 .memHL s
/-- `SET 5,A` (R276). -/
def execSet5_A (s : State) : Result := setForm 5 (.reg .a) s
/-- `SET 6,B` (R276). -/
def execSet6_B (s : State) : Result := setForm 6 (.reg .b) s
/-- `SET 6,C` (R276). -/
def execSet6_C (s : State) : Result := setForm 6 (.reg .c) s
/-- `SET 6,D` (R276). -/
def execSet6_D (s : State) : Result := setForm 6 (.reg .d) s
/-- `SET 6,E` (R276). -/
def execSet6_E (s : State) : Result := setForm 6 (.reg .e) s
/-- `SET 6,H` (R276). -/
def execSet6_H (s : State) : Result := setForm 6 (.reg .h) s
/-- `SET 6,L` (R276). -/
def execSet6_L (s : State) : Result := setForm 6 (.reg .l) s
/-- `SET 6,(HL)` (R276). -/
def execSet6_MemHL (s : State) : Result := setForm 6 .memHL s
/-- `SET 6,A` (R276). -/
def execSet6_A (s : State) : Result := setForm 6 (.reg .a) s
/-- `SET 7,B` (R276). -/
def execSet7_B (s : State) : Result := setForm 7 (.reg .b) s
/-- `SET 7,C` (R276). -/
def execSet7_C (s : State) : Result := setForm 7 (.reg .c) s
/-- `SET 7,D` (R276). -/
def execSet7_D (s : State) : Result := setForm 7 (.reg .d) s
/-- `SET 7,E` (R276). -/
def execSet7_E (s : State) : Result := setForm 7 (.reg .e) s
/-- `SET 7,H` (R276). -/
def execSet7_H (s : State) : Result := setForm 7 (.reg .h) s
/-- `SET 7,L` (R276). -/
def execSet7_L (s : State) : Result := setForm 7 (.reg .l) s
/-- `SET 7,(HL)` (R276). -/
def execSet7_MemHL (s : State) : Result := setForm 7 .memHL s
/-- `SET 7,A` (R276). -/
def execSet7_A (s : State) : Result := setForm 7 (.reg .a) s

end Sys2Proof.Machine
end

