-- ==== Sys2Proof/Machine/Control.lean ====
section
/-! DEFINITION. Jumps, calls, returns and restarts (45_control.md R290 to R302). The condition is evaluated with `PC` already after the
operand bytes (R290). -/

namespace Sys2Proof.Machine

/-- `PC <- target` (R291, R293). -/
def jumpTo (cost : Nat) (target : Word) (s : State) : Result := finish cost (s.setPc target)

/-- `JP cc,a16` (R292). -/
def jumpIf (cc : Cond) (nn : Word) (s : State) : Result :=
  if condHolds s.flags cc then finish 16 (s.setPc nn) else finish 12 s

/-- `PC + sext_16(e)` from the byte after the instruction (R294). -/
def relativeTarget (s : State) (e : Byte) : Word := s.regs.pc + sext16 e

/-- `JR r8` (R294). -/
def jumpRelative (e : Byte) (s : State) : Result := finish 12 (s.setPc (relativeTarget s e))

/-- `JR cc,r8` (R295). -/
def jumpRelativeIf (cc : Cond) (e : Byte) (s : State) : Result :=
  if condHolds s.flags cc then finish 12 (s.setPc (relativeTarget s e)) else finish 8 s

/-- `Push16(PC); PC <- target` (R296, R297, R302). -/
def callTo (target : Word) (s : State) : State := (s.push16 s.regs.pc).setPc target

/-- `PC <- Pop16()` (R298, R299). -/
def returnTo (s : State) : State :=
  let r := s.pop16
  r.2.setPc r.1

/-- `CALL a16` (R296). -/
def callForm (nn : Word) (s : State) : Result := finish 24 (callTo nn s)

/-- `CALL cc,a16` (R297): not taken, nothing is pushed. -/
def callIf (cc : Cond) (nn : Word) (s : State) : Result :=
  if condHolds s.flags cc then finish 24 (callTo nn s) else finish 12 s

/-- `RET` (R298). -/
def retForm (s : State) : Result := finish 16 (returnTo s)

/-- `RET cc` (R299): not taken, nothing is read. -/
def retIf (cc : Cond) (s : State) : Result :=
  if condHolds s.flags cc then finish 20 (returnTo s) else finish 8 s

/-- `RETI` (R300). -/
def retiForm (s : State) : Result := finish 16 (returnFromInterrupt s)

/-- `RST t` (R302). -/
def restart (t : Word) (s : State) : Result := finish 16 (callTo t s)

/-! The meanings, one per row of the opcode table. -/

/-- `JR r8` (R294). -/
def execJr (e : Byte) (s : State) : Result := jumpRelative e s
/-- `JR NZ,r8` (R295). -/
def execJrNZ (e : Byte) (s : State) : Result := jumpRelativeIf .nz e s
/-- `JR Z,r8` (R295). -/
def execJrZ (e : Byte) (s : State) : Result := jumpRelativeIf .z e s
/-- `JR NC,r8` (R295). -/
def execJrNC (e : Byte) (s : State) : Result := jumpRelativeIf .nc e s
/-- `JR C,r8` (R295). -/
def execJrC (e : Byte) (s : State) : Result := jumpRelativeIf .c e s
/-- `RET NZ` (R299). -/
def execRetNZ (s : State) : Result := retIf .nz s
/-- `JP NZ,a16` (R292). -/
def execJpNZ (nn : Word) (s : State) : Result := jumpIf .nz nn s
/-- `JP a16` (R291). -/
def execJp (nn : Word) (s : State) : Result := jumpTo 16 nn s
/-- `CALL NZ,a16` (R297). -/
def execCallNZ (nn : Word) (s : State) : Result := callIf .nz nn s
/-- `RST 00H` (R302). -/
def execRst00 (s : State) : Result := restart 0x0000#16 s
/-- `RET Z` (R299). -/
def execRetZ (s : State) : Result := retIf .z s
/-- `RET` (R298). -/
def execRet (s : State) : Result := retForm s
/-- `JP Z,a16` (R292). -/
def execJpZ (nn : Word) (s : State) : Result := jumpIf .z nn s
/-- `CALL Z,a16` (R297). -/
def execCallZ (nn : Word) (s : State) : Result := callIf .z nn s
/-- `CALL a16` (R296). -/
def execCall (nn : Word) (s : State) : Result := callForm nn s
/-- `RST 08H` (R302). -/
def execRst08 (s : State) : Result := restart 0x0008#16 s
/-- `RET NC` (R299). -/
def execRetNC (s : State) : Result := retIf .nc s
/-- `JP NC,a16` (R292). -/
def execJpNC (nn : Word) (s : State) : Result := jumpIf .nc nn s
/-- `CALL NC,a16` (R297). -/
def execCallNC (nn : Word) (s : State) : Result := callIf .nc nn s
/-- `RST 10H` (R302). -/
def execRst10 (s : State) : Result := restart 0x0010#16 s
/-- `RET C` (R299). -/
def execRetC (s : State) : Result := retIf .c s
/-- `RETI` (R300). -/
def execReti (s : State) : Result := retiForm s
/-- `JP C,a16` (R292). -/
def execJpC (nn : Word) (s : State) : Result := jumpIf .c nn s
/-- `CALL C,a16` (R297). -/
def execCallC (nn : Word) (s : State) : Result := callIf .c nn s
/-- `RST 18H` (R302). -/
def execRst18 (s : State) : Result := restart 0x0018#16 s
/-- `RST 20H` (R302). -/
def execRst20 (s : State) : Result := restart 0x0020#16 s
/-- `JP (HL)` (R293). -/
def execJpHL (s : State) : Result := jumpTo 4 s.hl s
/-- `RST 28H` (R302). -/
def execRst28 (s : State) : Result := restart 0x0028#16 s
/-- `RST 30H` (R302). -/
def execRst30 (s : State) : Result := restart 0x0030#16 s
/-- `RST 38H` (R302). -/
def execRst38 (s : State) : Result := restart 0x0038#16 s

end Sys2Proof.Machine
end

