-- ==== Sys2Proof/Machine/Load16.lean ====
section
/-! DEFINITION. The 16-bit loads and the stack (41_load16_stack.md R200 to R207). -/

namespace Sys2Proof.Machine

/-- `LD rr,d16` (R201). -/
def loadPairImm (p : Pair) (nn : Word) (s : State) : Result := finish 12 (s.setPair p nn)

/-- `LD (a16),SP` (R202): the low byte first, at the lower address. -/
def storeSp (nn : Word) (s : State) : Result :=
  finish 20 ((s.writeMem nn (loByte s.regs.sp)).writeMem (nn + 1#16) (hiByte s.regs.sp))

/-- `LD SP,HL` (R203). -/
def loadSpHl (s : State) : Result := finish 8 (s.setSp s.hl)

/-- `LD HL,SP+r8` (R204). -/
def loadHlSp (e : Byte) (s : State) : Result :=
  let r := addOffset s.regs.sp e
  finish 12 ((s.setPair .hl r.1).setFlags r.2)

/-- `PUSH qq` (R205). -/
def pushForm (q : StackPair) (s : State) : Result := finish 16 (s.push16 (s.regs.stackPair q))

/-- `POP qq` (R206) and `POP AF` (R207). -/
def popForm (q : StackPair) (s : State) : Result :=
  let r := s.pop16
  finish 12 (r.2.setStackPair q r.1)

/-! The meanings, one per row of the opcode table. -/

/-- `LD BC,d16` (R201). -/
def execLdBC_d16 (nn : Word) (s : State) : Result := loadPairImm .bc nn s
/-- `LD (a16),SP` (R202). -/
def execLdMemA16_SP (nn : Word) (s : State) : Result := storeSp nn s
/-- `LD DE,d16` (R201). -/
def execLdDE_d16 (nn : Word) (s : State) : Result := loadPairImm .de nn s
/-- `LD HL,d16` (R201). -/
def execLdHL_d16 (nn : Word) (s : State) : Result := loadPairImm .hl nn s
/-- `LD SP,d16` (R201). -/
def execLdSP_d16 (nn : Word) (s : State) : Result := loadPairImm .sp nn s
/-- `POP BC` (R206). -/
def execPopBC (s : State) : Result := popForm .bc s
/-- `PUSH BC` (R205). -/
def execPushBC (s : State) : Result := pushForm .bc s
/-- `POP DE` (R206). -/
def execPopDE (s : State) : Result := popForm .de s
/-- `PUSH DE` (R205). -/
def execPushDE (s : State) : Result := pushForm .de s
/-- `POP HL` (R206). -/
def execPopHL (s : State) : Result := popForm .hl s
/-- `PUSH HL` (R205). -/
def execPushHL (s : State) : Result := pushForm .hl s
/-- `POP AF` (R207). -/
def execPopAF (s : State) : Result := popForm .af s
/-- `PUSH AF` (R205). -/
def execPushAF (s : State) : Result := pushForm .af s
/-- `LD HL,SP+r8` (R204). -/
def execLdHL_SPr8 (e : Byte) (s : State) : Result := loadHlSp e s
/-- `LD SP,HL` (R203). -/
def execLdSP_HL (s : State) : Result := loadSpHl s

end Sys2Proof.Machine
end

