-- ==== Sys2Proof/Machine/Load8.lean ====
section
/-! DEFINITION. The 8-bit loads (40_load8.md R170 to R189): the shared operations, then one meaning per instruction. `PC` already stands
after the whole instruction (10_state.md R26). -/

namespace Sys2Proof.Machine

/-- `LD r,r'` (R171). -/
def loadRegReg (dst src : Reg8) (s : State) : Result := finish 4 (s.setReg dst (s.regs.get src))

/-- `LD r,d8` (R172). -/
def loadRegImm (dst : Reg8) (n : Byte) (s : State) : Result := finish 8 (s.setReg dst n)

/-- `LD r,(HL)` (R173): the address is the old `HL`. -/
def loadRegMem (dst : Reg8) (s : State) : Result :=
  let r := s.readMem s.hl
  finish 8 (r.2.setReg dst r.1)

/-- `LD (HL),r` (R174). -/
def storeMemReg (src : Reg8) (s : State) : Result := finish 8 (s.writeMem s.hl (s.regs.get src))

/-- `LD (HL),d8` (R175). -/
def storeMemImm (n : Byte) (s : State) : Result := finish 12 (s.writeMem s.hl n)

/-- `A <- MemRead(addr, 1)` (R176, R177, R180, R182, R184). -/
def loadA (cost : Nat) (addr : Word) (s : State) : Result :=
  let r := s.readMem addr
  finish cost (r.2.setReg .a r.1)

/-- `MemWrite(addr, 1, A)` (R178, R179, R181, R183, R185). -/
def storeA (cost : Nat) (addr : Word) (s : State) : Result := finish cost (s.writeMem addr s.regs.a)

/-- `MemWrite(HL, 1, A); HL <- HL + d` (R186, R187). -/
def storeAStep (d : Word) (s : State) : Result :=
  let s1 := s.writeMem s.hl s.regs.a
  finish 8 (s1.setPair .hl (s1.hl + d))

/-- `A <- MemRead(HL, 1); HL <- HL + d` (R188, R189). -/
def loadAStep (d : Word) (s : State) : Result :=
  let r := s.readMem s.hl
  let s1 := r.2.setReg .a r.1
  finish 8 (s1.setPair .hl (s1.hl + d))

/-! The meanings, one per row of the opcode table. -/

/-- `LD (BC),A` (R178). -/
def execLdMemBC_A (s : State) : Result := storeA 8 s.bc s
/-- `LD B,d8` (R172). -/
def execLdB_d8 (n : Byte) (s : State) : Result := loadRegImm .b n s
/-- `LD A,(BC)` (R176). -/
def execLdA_MemBC (s : State) : Result := loadA 8 s.bc s
/-- `LD C,d8` (R172). -/
def execLdC_d8 (n : Byte) (s : State) : Result := loadRegImm .c n s
/-- `LD (DE),A` (R179). -/
def execLdMemDE_A (s : State) : Result := storeA 8 s.de s
/-- `LD D,d8` (R172). -/
def execLdD_d8 (n : Byte) (s : State) : Result := loadRegImm .d n s
/-- `LD A,(DE)` (R177). -/
def execLdA_MemDE (s : State) : Result := loadA 8 s.de s
/-- `LD E,d8` (R172). -/
def execLdE_d8 (n : Byte) (s : State) : Result := loadRegImm .e n s
/-- `LD (HL+),A` (R186). -/
def execLdMemHLI_A (s : State) : Result := storeAStep 1#16 s
/-- `LD H,d8` (R172). -/
def execLdH_d8 (n : Byte) (s : State) : Result := loadRegImm .h n s
/-- `LD A,(HL+)` (R188). -/
def execLdA_MemHLI (s : State) : Result := loadAStep 1#16 s
/-- `LD L,d8` (R172). -/
def execLdL_d8 (n : Byte) (s : State) : Result := loadRegImm .l n s
/-- `LD (HL-),A` (R187). -/
def execLdMemHLD_A (s : State) : Result := storeAStep (-1#16) s
/-- `LD (HL),d8` (R175). -/
def execLdMemHL_d8 (n : Byte) (s : State) : Result := storeMemImm n s
/-- `LD A,(HL-)` (R189). -/
def execLdA_MemHLD (s : State) : Result := loadAStep (-1#16) s
/-- `LD A,d8` (R172). -/
def execLdA_d8 (n : Byte) (s : State) : Result := loadRegImm .a n s
/-- `LD B,B` (R171). -/
def execLdB_B (s : State) : Result := loadRegReg .b .b s
/-- `LD B,C` (R171). -/
def execLdB_C (s : State) : Result := loadRegReg .b .c s
/-- `LD B,D` (R171). -/
def execLdB_D (s : State) : Result := loadRegReg .b .d s
/-- `LD B,E` (R171). -/
def execLdB_E (s : State) : Result := loadRegReg .b .e s
/-- `LD B,H` (R171). -/
def execLdB_H (s : State) : Result := loadRegReg .b .h s
/-- `LD B,L` (R171). -/
def execLdB_L (s : State) : Result := loadRegReg .b .l s
/-- `LD B,(HL)` (R173). -/
def execLdB_MemHL (s : State) : Result := loadRegMem .b s
/-- `LD B,A` (R171). -/
def execLdB_A (s : State) : Result := loadRegReg .b .a s
/-- `LD C,B` (R171). -/
def execLdC_B (s : State) : Result := loadRegReg .c .b s
/-- `LD C,C` (R171). -/
def execLdC_C (s : State) : Result := loadRegReg .c .c s
/-- `LD C,D` (R171). -/
def execLdC_D (s : State) : Result := loadRegReg .c .d s
/-- `LD C,E` (R171). -/
def execLdC_E (s : State) : Result := loadRegReg .c .e s
/-- `LD C,H` (R171). -/
def execLdC_H (s : State) : Result := loadRegReg .c .h s
/-- `LD C,L` (R171). -/
def execLdC_L (s : State) : Result := loadRegReg .c .l s
/-- `LD C,(HL)` (R173). -/
def execLdC_MemHL (s : State) : Result := loadRegMem .c s
/-- `LD C,A` (R171). -/
def execLdC_A (s : State) : Result := loadRegReg .c .a s
/-- `LD D,B` (R171). -/
def execLdD_B (s : State) : Result := loadRegReg .d .b s
/-- `LD D,C` (R171). -/
def execLdD_C (s : State) : Result := loadRegReg .d .c s
/-- `LD D,D` (R171). -/
def execLdD_D (s : State) : Result := loadRegReg .d .d s
/-- `LD D,E` (R171). -/
def execLdD_E (s : State) : Result := loadRegReg .d .e s
/-- `LD D,H` (R171). -/
def execLdD_H (s : State) : Result := loadRegReg .d .h s
/-- `LD D,L` (R171). -/
def execLdD_L (s : State) : Result := loadRegReg .d .l s
/-- `LD D,(HL)` (R173). -/
def execLdD_MemHL (s : State) : Result := loadRegMem .d s
/-- `LD D,A` (R171). -/
def execLdD_A (s : State) : Result := loadRegReg .d .a s
/-- `LD E,B` (R171). -/
def execLdE_B (s : State) : Result := loadRegReg .e .b s
/-- `LD E,C` (R171). -/
def execLdE_C (s : State) : Result := loadRegReg .e .c s
/-- `LD E,D` (R171). -/
def execLdE_D (s : State) : Result := loadRegReg .e .d s
/-- `LD E,E` (R171). -/
def execLdE_E (s : State) : Result := loadRegReg .e .e s
/-- `LD E,H` (R171). -/
def execLdE_H (s : State) : Result := loadRegReg .e .h s
/-- `LD E,L` (R171). -/
def execLdE_L (s : State) : Result := loadRegReg .e .l s
/-- `LD E,(HL)` (R173). -/
def execLdE_MemHL (s : State) : Result := loadRegMem .e s
/-- `LD E,A` (R171). -/
def execLdE_A (s : State) : Result := loadRegReg .e .a s
/-- `LD H,B` (R171). -/
def execLdH_B (s : State) : Result := loadRegReg .h .b s
/-- `LD H,C` (R171). -/
def execLdH_C (s : State) : Result := loadRegReg .h .c s
/-- `LD H,D` (R171). -/
def execLdH_D (s : State) : Result := loadRegReg .h .d s
/-- `LD H,E` (R171). -/
def execLdH_E (s : State) : Result := loadRegReg .h .e s
/-- `LD H,H` (R171). -/
def execLdH_H (s : State) : Result := loadRegReg .h .h s
/-- `LD H,L` (R171). -/
def execLdH_L (s : State) : Result := loadRegReg .h .l s
/-- `LD H,(HL)` (R173). -/
def execLdH_MemHL (s : State) : Result := loadRegMem .h s
/-- `LD H,A` (R171). -/
def execLdH_A (s : State) : Result := loadRegReg .h .a s
/-- `LD L,B` (R171). -/
def execLdL_B (s : State) : Result := loadRegReg .l .b s
/-- `LD L,C` (R171). -/
def execLdL_C (s : State) : Result := loadRegReg .l .c s
/-- `LD L,D` (R171). -/
def execLdL_D (s : State) : Result := loadRegReg .l .d s
/-- `LD L,E` (R171). -/
def execLdL_E (s : State) : Result := loadRegReg .l .e s
/-- `LD L,H` (R171). -/
def execLdL_H (s : State) : Result := loadRegReg .l .h s
/-- `LD L,L` (R171). -/
def execLdL_L (s : State) : Result := loadRegReg .l .l s
/-- `LD L,(HL)` (R173). -/
def execLdL_MemHL (s : State) : Result := loadRegMem .l s
/-- `LD L,A` (R171). -/
def execLdL_A (s : State) : Result := loadRegReg .l .a s
/-- `LD (HL),B` (R174). -/
def execLdMemHL_B (s : State) : Result := storeMemReg .b s
/-- `LD (HL),C` (R174). -/
def execLdMemHL_C (s : State) : Result := storeMemReg .c s
/-- `LD (HL),D` (R174). -/
def execLdMemHL_D (s : State) : Result := storeMemReg .d s
/-- `LD (HL),E` (R174). -/
def execLdMemHL_E (s : State) : Result := storeMemReg .e s
/-- `LD (HL),H` (R174). -/
def execLdMemHL_H (s : State) : Result := storeMemReg .h s
/-- `LD (HL),L` (R174). -/
def execLdMemHL_L (s : State) : Result := storeMemReg .l s
/-- `LD (HL),A` (R174). -/
def execLdMemHL_A (s : State) : Result := storeMemReg .a s
/-- `LD A,B` (R171). -/
def execLdA_B (s : State) : Result := loadRegReg .a .b s
/-- `LD A,C` (R171). -/
def execLdA_C (s : State) : Result := loadRegReg .a .c s
/-- `LD A,D` (R171). -/
def execLdA_D (s : State) : Result := loadRegReg .a .d s
/-- `LD A,E` (R171). -/
def execLdA_E (s : State) : Result := loadRegReg .a .e s
/-- `LD A,H` (R171). -/
def execLdA_H (s : State) : Result := loadRegReg .a .h s
/-- `LD A,L` (R171). -/
def execLdA_L (s : State) : Result := loadRegReg .a .l s
/-- `LD A,(HL)` (R173). -/
def execLdA_MemHL (s : State) : Result := loadRegMem .a s
/-- `LD A,A` (R171). -/
def execLdA_A (s : State) : Result := loadRegReg .a .a s
/-- `LDH (a8),A` (R183). -/
def execLdhMemA8_A (n : Byte) (s : State) : Result := storeA 12 (pageFF n) s
/-- `LD (C),A` (R185). -/
def execLdMemC_A (s : State) : Result := storeA 8 (pageFF s.regs.c) s
/-- `LD (a16),A` (R181). -/
def execLdMemA16_A (nn : Word) (s : State) : Result := storeA 16 nn s
/-- `LDH A,(a8)` (R182). -/
def execLdhA_MemA8 (n : Byte) (s : State) : Result := loadA 12 (pageFF n) s
/-- `LD A,(C)` (R184). -/
def execLdA_MemC (s : State) : Result := loadA 8 (pageFF s.regs.c) s
/-- `LD A,(a16)` (R180). -/
def execLdA_MemA16 (nn : Word) (s : State) : Result := loadA 16 nn s

end Sys2Proof.Machine
end

