-- ==== Sys2Proof/Machine/Rotate.lean ====
section
/-! DEFINITION. Rotates, shifts and `SWAP` (44_rotate_shift_bit.md R260 to R273). -/

namespace Sys2Proof.Machine

/-- The accumulator rotates of the primary page (R261 to R264): `fZ` is cleared. -/
def rotateA (op : RotOp) (s : State) : Result :=
  let r := Sys2Proof.Machine.rotate op s.regs.a s.flags.c
  finish 4 ((s.setReg .a r.1).setFlags (rotateAFlags r.2))

/-- The rotates and shifts of the secondary page (R265 to R273): one read, then one write. -/
def rotateForm (op : RotOp) (o : Operand8) (s : State) : Result :=
  let v := s.readOperand o
  let r := Sys2Proof.Machine.rotate op v.1 v.2.flags.c
  finish (operandCost o 8 16) ((v.2.writeOperand o r.1).setFlags (rotateFlags r.1 r.2))

/-! The meanings, one per row of the opcode table. -/

/-- `RLCA` (R261). -/
def execRlca (s : State) : Result := rotateA .rlc s
/-- `RRCA` (R262). -/
def execRrca (s : State) : Result := rotateA .rrc s
/-- `RLA` (R263). -/
def execRla (s : State) : Result := rotateA .rl s
/-- `RRA` (R264). -/
def execRra (s : State) : Result := rotateA .rr s
/-- `RLC B` (R266). -/
def execRlcB (s : State) : Result := rotateForm .rlc (.reg .b) s
/-- `RLC C` (R266). -/
def execRlcC (s : State) : Result := rotateForm .rlc (.reg .c) s
/-- `RLC D` (R266). -/
def execRlcD (s : State) : Result := rotateForm .rlc (.reg .d) s
/-- `RLC E` (R266). -/
def execRlcE (s : State) : Result := rotateForm .rlc (.reg .e) s
/-- `RLC H` (R266). -/
def execRlcH (s : State) : Result := rotateForm .rlc (.reg .h) s
/-- `RLC L` (R266). -/
def execRlcL (s : State) : Result := rotateForm .rlc (.reg .l) s
/-- `RLC (HL)` (R266). -/
def execRlcMemHL (s : State) : Result := rotateForm .rlc .memHL s
/-- `RLC A` (R266). -/
def execRlcA (s : State) : Result := rotateForm .rlc (.reg .a) s
/-- `RRC B` (R267). -/
def execRrcB (s : State) : Result := rotateForm .rrc (.reg .b) s
/-- `RRC C` (R267). -/
def execRrcC (s : State) : Result := rotateForm .rrc (.reg .c) s
/-- `RRC D` (R267). -/
def execRrcD (s : State) : Result := rotateForm .rrc (.reg .d) s
/-- `RRC E` (R267). -/
def execRrcE (s : State) : Result := rotateForm .rrc (.reg .e) s
/-- `RRC H` (R267). -/
def execRrcH (s : State) : Result := rotateForm .rrc (.reg .h) s
/-- `RRC L` (R267). -/
def execRrcL (s : State) : Result := rotateForm .rrc (.reg .l) s
/-- `RRC (HL)` (R267). -/
def execRrcMemHL (s : State) : Result := rotateForm .rrc .memHL s
/-- `RRC A` (R267). -/
def execRrcA (s : State) : Result := rotateForm .rrc (.reg .a) s
/-- `RL B` (R268). -/
def execRlB (s : State) : Result := rotateForm .rl (.reg .b) s
/-- `RL C` (R268). -/
def execRlC (s : State) : Result := rotateForm .rl (.reg .c) s
/-- `RL D` (R268). -/
def execRlD (s : State) : Result := rotateForm .rl (.reg .d) s
/-- `RL E` (R268). -/
def execRlE (s : State) : Result := rotateForm .rl (.reg .e) s
/-- `RL H` (R268). -/
def execRlH (s : State) : Result := rotateForm .rl (.reg .h) s
/-- `RL L` (R268). -/
def execRlL (s : State) : Result := rotateForm .rl (.reg .l) s
/-- `RL (HL)` (R268). -/
def execRlMemHL (s : State) : Result := rotateForm .rl .memHL s
/-- `RL A` (R268). -/
def execRlA (s : State) : Result := rotateForm .rl (.reg .a) s
/-- `RR B` (R269). -/
def execRrB (s : State) : Result := rotateForm .rr (.reg .b) s
/-- `RR C` (R269). -/
def execRrC (s : State) : Result := rotateForm .rr (.reg .c) s
/-- `RR D` (R269). -/
def execRrD (s : State) : Result := rotateForm .rr (.reg .d) s
/-- `RR E` (R269). -/
def execRrE (s : State) : Result := rotateForm .rr (.reg .e) s
/-- `RR H` (R269). -/
def execRrH (s : State) : Result := rotateForm .rr (.reg .h) s
/-- `RR L` (R269). -/
def execRrL (s : State) : Result := rotateForm .rr (.reg .l) s
/-- `RR (HL)` (R269). -/
def execRrMemHL (s : State) : Result := rotateForm .rr .memHL s
/-- `RR A` (R269). -/
def execRrA (s : State) : Result := rotateForm .rr (.reg .a) s
/-- `SLA B` (R270). -/
def execSlaB (s : State) : Result := rotateForm .sla (.reg .b) s
/-- `SLA C` (R270). -/
def execSlaC (s : State) : Result := rotateForm .sla (.reg .c) s
/-- `SLA D` (R270). -/
def execSlaD (s : State) : Result := rotateForm .sla (.reg .d) s
/-- `SLA E` (R270). -/
def execSlaE (s : State) : Result := rotateForm .sla (.reg .e) s
/-- `SLA H` (R270). -/
def execSlaH (s : State) : Result := rotateForm .sla (.reg .h) s
/-- `SLA L` (R270). -/
def execSlaL (s : State) : Result := rotateForm .sla (.reg .l) s
/-- `SLA (HL)` (R270). -/
def execSlaMemHL (s : State) : Result := rotateForm .sla .memHL s
/-- `SLA A` (R270). -/
def execSlaA (s : State) : Result := rotateForm .sla (.reg .a) s
/-- `SRA B` (R271). -/
def execSraB (s : State) : Result := rotateForm .sra (.reg .b) s
/-- `SRA C` (R271). -/
def execSraC (s : State) : Result := rotateForm .sra (.reg .c) s
/-- `SRA D` (R271). -/
def execSraD (s : State) : Result := rotateForm .sra (.reg .d) s
/-- `SRA E` (R271). -/
def execSraE (s : State) : Result := rotateForm .sra (.reg .e) s
/-- `SRA H` (R271). -/
def execSraH (s : State) : Result := rotateForm .sra (.reg .h) s
/-- `SRA L` (R271). -/
def execSraL (s : State) : Result := rotateForm .sra (.reg .l) s
/-- `SRA (HL)` (R271). -/
def execSraMemHL (s : State) : Result := rotateForm .sra .memHL s
/-- `SRA A` (R271). -/
def execSraA (s : State) : Result := rotateForm .sra (.reg .a) s
/-- `SWAP B` (R272). -/
def execSwapB (s : State) : Result := rotateForm .swap (.reg .b) s
/-- `SWAP C` (R272). -/
def execSwapC (s : State) : Result := rotateForm .swap (.reg .c) s
/-- `SWAP D` (R272). -/
def execSwapD (s : State) : Result := rotateForm .swap (.reg .d) s
/-- `SWAP E` (R272). -/
def execSwapE (s : State) : Result := rotateForm .swap (.reg .e) s
/-- `SWAP H` (R272). -/
def execSwapH (s : State) : Result := rotateForm .swap (.reg .h) s
/-- `SWAP L` (R272). -/
def execSwapL (s : State) : Result := rotateForm .swap (.reg .l) s
/-- `SWAP (HL)` (R272). -/
def execSwapMemHL (s : State) : Result := rotateForm .swap .memHL s
/-- `SWAP A` (R272). -/
def execSwapA (s : State) : Result := rotateForm .swap (.reg .a) s
/-- `SRL B` (R273). -/
def execSrlB (s : State) : Result := rotateForm .srl (.reg .b) s
/-- `SRL C` (R273). -/
def execSrlC (s : State) : Result := rotateForm .srl (.reg .c) s
/-- `SRL D` (R273). -/
def execSrlD (s : State) : Result := rotateForm .srl (.reg .d) s
/-- `SRL E` (R273). -/
def execSrlE (s : State) : Result := rotateForm .srl (.reg .e) s
/-- `SRL H` (R273). -/
def execSrlH (s : State) : Result := rotateForm .srl (.reg .h) s
/-- `SRL L` (R273). -/
def execSrlL (s : State) : Result := rotateForm .srl (.reg .l) s
/-- `SRL (HL)` (R273). -/
def execSrlMemHL (s : State) : Result := rotateForm .srl .memHL s
/-- `SRL A` (R273). -/
def execSrlA (s : State) : Result := rotateForm .srl (.reg .a) s

end Sys2Proof.Machine
end

