-- ==== Sys2Proof/Machine/Prefix.lean ====
section
/-! DEFINITION. The row of the prefix itself (46_system.md R315): the instruction of the secondary page that the second byte selects, by
the byte's fields (30_encoding.md R142, R151). The decoder never yields this row, its words are those of the secondary page's
rows. DEDUCED (log 9). -/

namespace Sys2Proof.Machine

/-- The selector `r` (30_encoding.md R143). -/
def operandOf (z : BitVec 3) : Operand8 :=
  match z.toNat with
  | 0 => .reg .b
  | 1 => .reg .c
  | 2 => .reg .d
  | 3 => .reg .e
  | 4 => .reg .h
  | 5 => .reg .l
  | 6 => .memHL
  | _ => .reg .a

/-- The rotate and shift selector (R147). -/
def rotOf (y : BitVec 3) : RotOp :=
  match y.toNat with
  | 0 => .rlc
  | 1 => .rrc
  | 2 => .rl
  | 3 => .rr
  | 4 => .sla
  | 5 => .sra
  | 6 => .swap
  | _ => .srl

/-- The secondary page by the fields `x y z` of its opcode (R151, R315). -/
def prefixForm (op2 : Byte) (s : State) : Result :=
  let y : BitVec 3 := op2.extractLsb' 3 3
  let o := operandOf (op2.extractLsb' 0 3)
  match op2.toNat / 64 with
  | 0 => rotateForm (rotOf y) o s
  | 1 => bitForm y.toNat o s
  | 2 => resForm y.toNat o s
  | _ => setForm y.toNat o s

/-! The meanings, one per row of the opcode table. -/

/-- `PREFIX CB` (R315). -/
def execPrefixCB (op2 : Byte) (s : State) : Result := prefixForm op2 s

end Sys2Proof.Machine
end

