-- ==== Sys2Proof/Machine/System.lean ====
section
/-! DEFINITION. The system instructions and the illegal opcodes (46_system.md R310 to R317). -/

namespace Sys2Proof.Machine

/-- `NOP` (R310). -/
def nopForm (s : State) : Result := finish 4 s

/-- `HALT` (R311). -/
def haltForm (s : State) : Result := finish 4 { s with halted := true }

/-- `STOP` (R312): the second byte is fetched and ignored, nothing else happens. -/
def stopForm (s : State) : Result := finish 4 s

/-- `DI` (R313). -/
def diForm (s : State) : Result := finish 4 { s with ime := false, imeScheduled := false }

/-- `EI` (R314): `ime` is not changed by this instruction. -/
def eiForm (s : State) : Result := finish 4 { s with imeScheduled := true }

/-! The meanings, one per row of the opcode table. -/

/-- `NOP` (R310). -/
def execNop (s : State) : Result := nopForm s
/-- `STOP` (R312). -/
def execStop (_ignored : Byte) (s : State) : Result := stopForm s
/-- `HALT` (R311). -/
def execHalt (s : State) : Result := haltForm s
/-- `illegal opcode 0xD3` (R317). -/
def execIllegalD3 (s : State) : Result := raiseIllegal 0xD3#8 s
/-- `illegal opcode 0xDB` (R317). -/
def execIllegalDB (s : State) : Result := raiseIllegal 0xDB#8 s
/-- `illegal opcode 0xDD` (R317). -/
def execIllegalDD (s : State) : Result := raiseIllegal 0xDD#8 s
/-- `illegal opcode 0xE3` (R317). -/
def execIllegalE3 (s : State) : Result := raiseIllegal 0xE3#8 s
/-- `illegal opcode 0xE4` (R317). -/
def execIllegalE4 (s : State) : Result := raiseIllegal 0xE4#8 s
/-- `illegal opcode 0xEB` (R317). -/
def execIllegalEB (s : State) : Result := raiseIllegal 0xEB#8 s
/-- `illegal opcode 0xEC` (R317). -/
def execIllegalEC (s : State) : Result := raiseIllegal 0xEC#8 s
/-- `illegal opcode 0xED` (R317). -/
def execIllegalED (s : State) : Result := raiseIllegal 0xED#8 s
/-- `DI` (R313). -/
def execDi (s : State) : Result := diForm s
/-- `illegal opcode 0xF4` (R317). -/
def execIllegalF4 (s : State) : Result := raiseIllegal 0xF4#8 s
/-- `EI` (R314). -/
def execEi (s : State) : Result := eiForm s
/-- `illegal opcode 0xFC` (R317). -/
def execIllegalFC (s : State) : Result := raiseIllegal 0xFC#8 s
/-- `illegal opcode 0xFD` (R317). -/
def execIllegalFD (s : State) : Result := raiseIllegal 0xFD#8 s

end Sys2Proof.Machine
end

