-- ==== Sys2Proof/Machine/Render.lean ====
section
/-! DEFINITION. Rendering one scanline (60_exceptions.md R399 to R408). Every read of `VRAM` is of bank 0, straight from the array
(R81, R399); indices are offsets into it. -/

namespace Sys2Proof.Machine

/-- A shade or a colour index: two bits (R399, R401). -/
abbrev Shade := BitVec 2

/-- The shade a palette register gives a colour index: `(pal >> (2 * ci)) & 3` (R400). -/
def paletteShade (pal : Byte) (ci : Shade) : Shade := (pal >>> (2 * ci.toNat)).setWidth 2

/-- The colour index from the two bit-planes of a tile row (R401): the second byte is the high plane. -/
def planeIndex (lo hi : Byte) (bit : Nat) : Shade := BitVec.ofBool (bitAt hi bit) ++ BitVec.ofBool (bitAt lo bit)

/-- The offset of a tile's first byte (R401): signed around 0x1000 in the alternate area. -/
def tileBase (tid : Byte) (unsignedArea : Bool) : Nat :=
  if unsignedArea then tid.toNat * 16 else (0x1000 + tid.toInt * 16).toNat

/-- One sprite-table entry (R403). -/
structure Sprite where
  index : Nat
  y : Byte
  x : Byte
  tile : Byte
  attr : Byte
  deriving DecidableEq, Repr

namespace Bus

/-- A byte of `VRAM[0]` (R399). -/
def vram0 (b : Bus) (i : Nat) : Byte := b.vram.read i

/-- `TilePixel(tid, row, bit, unsignedArea)` (R401). -/
def tilePixel (b : Bus) (tid : Byte) (row bit : Nat) (unsignedArea : Bool) : Shade :=
  let base := tileBase tid unsignedArea
  planeIndex (b.vram0 (base + 2 * row)) (b.vram0 (base + 2 * row + 1)) bit

/-- `LCDC[i]` (10_state.md R54). -/
def lcdcBit (b : Bus) (i : Nat) : Bool := bitAt (b.ioAt Io.lcdc) i

/-- The colour index at column `px`, line `py` of the tile map that starts at `map`. -/
def mapPixel (b : Bus) (map px py : Nat) : Shade :=
  b.tilePixel (b.vram0 (map + py / 8 * 32 + px / 8)) (py % 8) (7 - px % 8) (b.lcdcBit 4)

/-- The background shade (R400). -/
def backgroundShade (b : Bus) (ly x : Nat) : Shade :=
  if b.lcdcBit 0 then
    let py := (ly + (b.ioAt Io.scy).toNat) % 256
    let px := (x + (b.ioAt Io.scx).toNat) % 256
    paletteShade (b.ioAt Io.bgp) (b.mapPixel (if b.lcdcBit 3 then 0x1C00 else 0x1800) px py)
  else 0#2

/-- The window covers column `x` of line `ly` (R402). -/
def windowCovers (p : Params) (b : Bus) (ly x : Nat) : Bool :=
  p.layersEnabled && b.lcdcBit 0 && b.lcdcBit 5 && decide ((b.ioAt Io.wy).toNat ≤ ly)
    && decide ((b.ioAt Io.wx).toNat ≤ x + 7)

/-- The window shade where it covers (R402). -/
def windowShade (b : Bus) (ly x : Nat) : Shade :=
  let wy := ly - (b.ioAt Io.wy).toNat
  let wx := x + 7 - (b.ioAt Io.wx).toNat
  paletteShade (b.ioAt Io.bgp) (b.mapPixel (if b.lcdcBit 6 then 0x1C00 else 0x1800) wx wy)

/-- `bgsh[x]` (R399): the background, or the window where it covers. -/
def bgShade (p : Params) (b : Bus) (ly x : Nat) : Shade :=
  if windowCovers p b ly x then b.windowShade ly x else b.backgroundShade ly x

/-- Entry `i` of `OAM` (R403). -/
def spriteAt (b : Bus) (i : Nat) : Sprite :=
  { index := i, y := b.oam.read (4 * i), x := b.oam.read (4 * i + 1)
    tile := b.oam.read (4 * i + 2), attr := b.oam.read (4 * i + 3) }

/-- The sprite height (R403). -/
def spriteHeight (b : Bus) : Nat := if b.lcdcBit 2 then 16 else 8

/-- `Y - 16 <= ly < Y - 16 + h`, without wrap (R403). -/
def onLine (h ly : Nat) (s : Sprite) : Bool := decide (s.y.toNat ≤ ly + 16) && decide (ly + 16 < s.y.toNat + h)

/-- The entries kept on a line: the first ten in table order (R403). -/
def selected (p : Params) (b : Bus) (ly : Nat) : List Sprite :=
  if p.layersEnabled && b.lcdcBit 1 then
    (((List.range 40).map b.spriteAt).filter (onLine b.spriteHeight ly)).take 10
  else []

/-- `(X, i)` comes before (R404). -/
def spriteBefore (s t : Sprite) : Bool :=
  decide (s.x.toNat < t.x.toNat) || (decide (s.x = t.x) && decide (s.index < t.index))

/-- Insertion into a list in priority order (R404). -/
def insertSprite (s : Sprite) : List Sprite → List Sprite
  | [] => [s]
  | t :: ts => if spriteBefore s t then s :: t :: ts else t :: insertSprite s ts

/-- The entries in priority order, the highest first (R404). -/
def priorityOrder : List Sprite → List Sprite
  | [] => []
  | s :: ts => insertSprite s (priorityOrder ts)

/-- The colour index of a sprite at column `x` of line `ly`, if the sprite reaches that column (R405). -/
def spriteIndex (b : Bus) (ly x : Nat) (s : Sprite) : Option Shade :=
  if s.x.toNat ≤ x + 8 ∧ x < s.x.toNat then
    let col := x + 8 - s.x.toNat
    let line := ly + 16 - s.y.toNat
    let row := if bitAt s.attr 6 then b.spriteHeight - 1 - line else line
    let tile := if b.spriteHeight = 16 then s.tile &&& 0xFE#8 else s.tile
    let bit := if bitAt s.attr 5 then col else 7 - col
    let base := tile.toNat * 16 + 2 * row
    some (planeIndex (b.vram0 base) (b.vram0 (base + 1)) bit)
  else none

/-- The shade a sprite shows at column `x` over the background shade `bg`, unless it is skipped there (R405). -/
def spriteShade (b : Bus) (ly x : Nat) (bg : Shade) (s : Sprite) : Option Shade :=
  match b.spriteIndex ly x s with
  | none => none
  | some ci =>
    if ci = 0#2 then none
    else if bitAt s.attr 7 && decide (bg ≠ 0#2) then none
    else some (paletteShade (if bitAt s.attr 4 then b.ioAt Io.obp1 else b.ioAt Io.obp0) ci)

/-- `sh[x]` (R405): the first entry in priority order that is not skipped, else the background shade. -/
def pixelShade (b : Bus) (ly x : Nat) (bg : Shade) : List Sprite → Shade
  | [] => bg
  | s :: ts => match b.spriteShade ly x bg s with
    | some sh => sh
    | none => b.pixelShade ly x bg ts

/-- The shades of a line (R399). -/
def lineShades (p : Params) (b : Bus) (ly : Nat) : List Shade :=
  let sprites := priorityOrder (selected p b ly)
  (List.range Config.screenWidth).map fun x => b.pixelShade ly x (bgShade p b ly x) sprites

/-- `SHADE_RGBA[s]` (R406). -/
def shadeRgba (p : Params) (s : Shade) : Rgba :=
  if s = 0#2 then p.shade0 else if s = 1#2 then p.shade1 else if s = 2#2 then p.shade2 else p.shade3

/-- The four bytes of a colour, in the framebuffer's order (R406). -/
def rgbaBytes (c : Rgba) : List Byte := [c.r, c.g, c.b, c.a]

/-- The 640 framebuffer bytes of a line (R399). -/
def lineBytes (p : Params) (b : Bus) (ly : Nat) : List Byte :=
  (lineShades p b ly).flatMap fun s => rgbaBytes (shadeRgba p s)

/-- What a line that is not listed holds: 640 bytes of what an unlisted index of an array reads as. -/
def blankLine : List Byte := List.replicate (4 * Config.screenWidth) Memory.blank

/-- The 640 bytes of a line. -/
def lineOf : List (Nat × List Byte) → Nat → List Byte
  | [], _ => blankLine
  | (k, px) :: t, ly => if k = ly then px else lineOf t ly

/-- The framebuffer with no entry for a line. -/
def eraseLine : List (Nat × List Byte) → Nat → List (Nat × List Byte)
  | [], _ => []
  | (k, px) :: t, ly => if k = ly then eraseLine t ly else (k, px) :: eraseLine t ly

/-- The framebuffer with one more line, put before the first greater one. -/
def insertLine : List (Nat × List Byte) → Nat → List Byte → List (Nat × List Byte)
  | [], ly, px => [(ly, px)]
  | (k, w) :: t, ly, px => if ly < k then (ly, px) :: (k, w) :: t else (k, w) :: insertLine t ly px

/-- The framebuffer with one line replaced, or its entry removed where it holds what an unlisted line holds. -/
def putLine (fb : List (Nat × List Byte)) (ly : Nat) (px : List Byte) : List (Nat × List Byte) :=
  if px = blankLine then eraseLine fb ly else insertLine (eraseLine fb ly) ly px

/-- `RenderScanline(ly)` (R399). -/
def renderScanline (p : Params) (b : Bus) (ly : Nat) : Bus :=
  { b with fb := putLine b.fb ly (lineBytes p b ly) }

/-- `FB[i]` (R407). -/
def fbByte (b : Bus) (i : Nat) : Byte :=
  (lineOf b.fb (i / (4 * Config.screenWidth))).getD (i % (4 * Config.screenWidth)) Memory.blank

end Bus

end Sys2Proof.Machine
end

