-- ==== Sys2Proof/Machine/Ppu.lean ====
section
/-! DEFINITION. The pixel pipeline's mode state machine (60_exceptions.md R380 to R389). The mode is `STAT[1:0]`, the scanline
is `LY` (10_state.md R74). -/

namespace Sys2Proof.Machine.Bus

/-- `STAT[1:0]` (10_state.md R55): 2 OAM-scan, 3 drawing, 0 H-blank, 1 V-blank. -/
def ppuMode (b : Bus) : Nat := (b.ioAt Io.stat).toNat % 4

/-- `LY` as a number. -/
def lyNat (b : Bus) : Nat := (b.ioAt Io.ly).toNat

/-- `STAT[i]`. -/
def statBit (b : Bus) (i : Nat) : Bool := bitAt (b.ioAt Io.stat) i

/-- `STAT[1:0] <- mode`. -/
def setMode (b : Bus) (mode : Byte) : Bus := b.setIo Io.stat ((b.ioAt Io.stat &&& 0xFC#8) ||| mode)

/-- `if STAT[i] = 1 then IF[1] <- 1` (R388). -/
def statRequest (b : Bus) (i : Nat) : Bus := if b.statBit i then b.request 1 else b

/-- The LY compare of a scanline boundary (R382). -/
def compareLy (b : Bus) : Bus :=
  if b.ioAt Io.ly = b.ioAt Io.lyc then (b.setIo Io.stat (withBit (b.ioAt Io.stat) 2)).statRequest 6
  else b.setIo Io.stat (withoutBit (b.ioAt Io.stat) 2)

/-- Entering scanline 144 (R383). -/
def enterVblank (b : Bus) : Bus := ((b.setMode 1#8).request 0).statRequest 4

/-- Entering a visible scanline (R384). -/
def enterOamScan (b : Bus) : Bus := (b.setMode 2#8).statRequest 5

/-- `LY <- (LY + 1) mod 154` with the line's cycles taken off `dot` (R381). -/
def nextLine (b : Bus) : Bus :=
  { b.setIo Io.ly (BitVec.ofNat 8 ((b.lyNat + 1) % Config.frameLines)) with dot := b.dot - Config.lineCycles }

/-- What follows from the new scanline's number (R381). -/
def enterLine (b : Bus) : Bus :=
  if b.lyNat = Config.vblankLine then b.enterVblank
  else if b.lyNat < Config.vblankLine then b.enterOamScan
  else b

/-- The scanline-boundary test (R381); the flag is `frame_ready` (R383). -/
def boundary (b : Bus) : Bus × Bool :=
  if Config.lineCycles ≤ b.dot then
    let b' := b.nextLine.compareLy
    (b'.enterLine, decide (b'.lyNat = Config.vblankLine))
  else (b, false)

/-- OAM-scan to Drawing, with the line rendered at that moment (R385). -/
def startDrawing (p : Params) (b : Bus) : Bus :=
  if b.lyNat < Config.vblankLine ∧ b.ppuMode = 2 ∧ Config.drawingDot ≤ b.dot then
    renderScanline p (b.setMode 3#8) b.lyNat
  else b

/-- Drawing to H-blank, with the scanline-gated VRAM-DMA chunk (R386). -/
def startHblank (b : Bus) : Bus :=
  if b.lyNat < Config.vblankLine ∧ b.ppuMode = 3 ∧ Config.hblankDot ≤ b.dot then
    ((b.setMode 0#8).statRequest 3).hblankChunk
  else b

/-- `PpuStep(c)` (R380), with its `frame_ready` output. -/
def ppuStep (p : Params) (b : Bus) (c : Nat) : Bus × Bool :=
  if b.lcdcBit 7 then
    let r := { b with dot := b.dot + c }.boundary
    ((startDrawing p r.1).startHblank, r.2)
  else (b, false)

end Sys2Proof.Machine.Bus
end

