-- ==== Sys2Proof/Machine/Timer.lean ====
section
/-! DEFINITION. The timer, the divider and the audio placeholder (60_exceptions.md R360 to R364, R430). The `while` loops of R362
and R363 are run as many rounds as the accumulator holds whole periods (log 16). -/

namespace Sys2Proof.Machine.Bus

/-- The divider (R362): it runs always. -/
def dividerStep (b : Bus) (c : Nat) : Bus :=
  let acc := b.divAcc + c
  { b.setIo Io.div (b.ioAt Io.div + BitVec.ofNat 8 (acc / Config.dividerPeriod)) with
    divAcc := acc % Config.dividerPeriod }

/-- The period `TAC[1:0]` selects (R363, 10_state.md R52). -/
def timerPeriod (b : Bus) : Nat :=
  match (b.ioAt Io.tac).toNat % 4 with
  | 0 => 1024
  | 1 => 16
  | 2 => 64
  | _ => 256

/-- One tick of `TIMA` (R363): on overflow from 0xFF the reload and the request come in the same tick. -/
def timaTick (b : Bus) : Bus :=
  if b.ioAt Io.tima = 0xFF#8 then (b.setIo Io.tima (b.ioAt Io.tma)).request 2
  else b.setIo Io.tima (b.ioAt Io.tima + 1#8)

/-- `n` ticks. -/
def timaTicks (b : Bus) : Nat → Bus
  | 0 => b
  | n + 1 => (b.timaTicks n).timaTick

/-- The counter (R363): nothing happens while `TAC[2]` is clear. -/
def counterStep (b : Bus) (c : Nat) : Bus :=
  if bitAt (b.ioAt Io.tac) 2 then
    let acc := b.timaAcc + c
    { b.timaTicks (acc / b.timerPeriod) with timaAcc := acc % b.timerPeriod }
  else b

/-- `TimerStep(c)` (R360): first the divider, then the counter. -/
def timerStep (b : Bus) (c : Nat) : Bus := (b.dividerStep c).counterStep c

/-- `AudioStep(c)` (R430): changes no state. -/
def audioStep (b : Bus) (_c : Nat) : Bus := b

end Sys2Proof.Machine.Bus
end

