-- ==== Sys2Proof/Machine/Cpu.lean ====
section
/-! DEFINITION. The CPU step and the system step (60_exceptions.md R330 to R333; 30_encoding.md R155). -/

namespace Sys2Proof.Machine

/-- Fetching and decoding (R155): the opcode, then as many bytes as its length says, each an ordinary bus read. All of them are
fetched before the instruction runs (46_system.md R316). DEDUCED (log 11). -/
def fetchInstr (s : State) : Instr × State :=
  let op := s.fetch8
  match instrLen op.1 with
  | 1 => (decodeOp op.1 0#8 0#8, op.2)
  | 2 =>
    let b1 := op.2.fetch8
    (decodeOp op.1 b1.1 0#8, b1.2)
  | _ =>
    let b1 := op.2.fetch8
    let b2 := b1.2.fetch8
    (decodeOp op.1 b1.1 b2.1, b2.2)

/-- R333 (d): fetch, decode, execute. -/
def fetchExecute (s : State) : Result :=
  let f := fetchInstr s
  exec f.1 f.2

/-- The stack-pointer guard fires (R340). -/
def guardFires (s : State) : Bool := decide (s.regs.sp.toNat < s.params.spGuardThreshold.toNat)

/-- R333 (c) and (d): a pending request with `ime` set is dispatched instead of fetching, unless the guard fires (R340). -/
def dispatchOrFetch (s : State) : Result :=
  if s.ime && s.pending then
    if guardFires s then fetchExecute s.discardRequests else .next (takeInterrupt s)
  else fetchExecute s

/-- `CpuStep()` (R332, R333). The cost it returns is `stepCost` of the next state. -/
def cpuStep (s : State) : Result :=
  if s.locked then .fault (.locked s)
  else if s.halted then .next s.haltedStep
  else dispatchOrFetch s.commitIme

/-- R330 (2) to (5): the devices advance by the cost the CPU step returned. -/
def deviceStep (s : State) : State :=
  let c := s.stepCost
  let r := Bus.ppuStep s.params ((s.bus.timerStep c).audioStep c) c
  { s with bus := r.1, frameReady := r.2, cycles := s.cycles + BitVec.ofNat 32 c }

/-- One system step (R330): if the CPU step faults, nothing else happens. -/
def systemStep (s : State) : Result :=
  match cpuStep s with
  | .next t => .next (deviceStep t)
  | .fault f => .fault f
  | .refused r => .refused r

end Sys2Proof.Machine
end

