-- ==== Sys2Proof/Machine/Loader.lean ====
section
/-! DEFINITION. Placing an instruction where the next step fetches it: what `State.withFetchWord` (Machine/Step.lean) does. It
stands for the host's load of a program (70_reset_and_hazards.md R450). DESIGN CHOICE (log 7, 8). -/

namespace Sys2Proof.Machine

namespace Bus

/-- The address is backed by an array in which a stored byte is the byte a read returns: `ROM` (written by a load only), or
RAM that is visible. -/
def holds (b : Bus) (addr : Word) : Bool :=
  match region addr with
  | .romFixed _ | .romBanked _ | .vram _ | .wramFixed _ | .wramBanked _ | .oam _ | .hram _ => true
  | .eram _ => b.eramVisible
  | .unusable | .io _ | .ie => false

/-- A byte of `ROM`, as a load places it. -/
def pokeRom (b : Bus) (i : Nat) (v : Byte) : Bus := { b with rom := b.rom.write i v, romLen := max b.romLen (i + 1) }

/-- A byte placed behind an address that `holds`. -/
def poke (b : Bus) (addr : Word) (v : Byte) : Bus :=
  match region addr with
  | .romFixed i => b.pokeRom i v
  | .romBanked i => b.pokeRom (b.effRomBank * 0x4000 + i) v
  | _ => b.write addr v

/-- Bytes placed from an address on. -/
def pokeBytes (b : Bus) (addr : Word) : List Byte → Bus
  | [] => b
  | v :: vs => (b.poke addr v).pokeBytes (addr + 1#16) vs

end Bus

/-- The program counter the placed instruction is fetched at: `PC` itself, or the entry point 0x0100 (R452) where `PC` points at
bytes that cannot hold one. -/
def fetchHome (s : State) : Word :=
  if s.bus.holds s.regs.pc && s.bus.holds (s.regs.pc + 1#16) && s.bus.holds (s.regs.pc + 2#16) then s.regs.pc else 0x0100#16

/-- The state in which the next step fetches and does not idle, dispatch or fault: `halted` and `locked` clear, and `IE` cleared
only where a dispatch would come first. -/
def readyToFetch (s : State) : State :=
  let s1 := { s with halted := false, locked := false }
  if s.commitIme.ime && s.pending then { s1 with bus := { s1.bus with ie := 0x00#8 } } else s1

/-- The instruction's bytes placed where that step fetches them. -/
def placeInstr (s : State) (bytes : List Byte) : State :=
  let s1 := readyToFetch s
  let home := fetchHome s1
  { s1.setPc home with bus := s1.bus.pokeBytes home bytes }

end Sys2Proof.Machine
end

