-- ==== Sys2Proof/Machine/Step.lean ====
section
/-! DEFINITION. One step of the machine is one system step (60_exceptions.md R330: "The machine advances only by system steps"). -/

namespace Sys2Proof.Machine

/-- One system step. It does not read `running`, which gates the host's `run_frame()` only (10_state.md R77; log 15). -/
def step (s : State) : Host.Outcome State Fault Refusal := systemStep s

/-- The state with an instruction word of the opcode table placed where `step` fetches next (log 7, 8). -/
def State.withFetchWord (s : State) (nbits w : Nat) : State := placeInstr s (tableBytes nbits w)

end Sys2Proof.Machine
end

