-- ==== Sys2Proof/Machine/HostOps.lean ====
section
/-! DEFINITION. The host's operations, applied between system steps (70_reset_and_hazards.md R450 to R454, R460 to R465;
20_memory.md R106 to R108). The program cannot reach them. `save_state`, `load_state` (R466) and the diagnostic surface (R467) are
left out as the spec says. -/

namespace Sys2Proof.Machine

/-- `RAM_INIT` (10_state.md R40): the open contents of the RAM arrays and of `FB`. -/
structure RamInit where
  vram : Memory
  eram : Memory
  wram : Memory
  oam : Memory
  hram : Memory
  bgPal : Memory
  objPal : Memory
  fb : List (Nat × List Byte)
  deriving DecidableEq, Repr

/-- All RAM and `FB` read 0x00: what `State.reset` takes (log 1). -/
def RamInit.zero : RamInit :=
  { vram := [], eram := [], wram := [], oam := [], hram := [], bgPal := [], objPal := [], fb := [] }

/-- The parameters a model must accept: `F & 0x0F = 0` (10_state.md R32), a `STAT` that agrees with mode 2 and with `LY = LYC`, and
`LY <= 153` (R70). -/
def paramsValid (p : Params) : Bool :=
  let stat := Memory.read p.resetIo Io.stat
  let ly := Memory.read p.resetIo Io.ly
  decide (p.resetRegs.f &&& 0x0F#8 = 0#8) && decide (stat.toNat % 4 = 2)
    && decide (bitAt stat 2 = decide (ly = Memory.read p.resetIo Io.lyc)) && decide (ly.toNat ≤ 153)

/-- The reset state (R451) around what a reset preserves: the `ROM`, what is derived from it, `running`. -/
def resetState (p : Params) (ram : RamInit) (s : State) : State :=
  { regs := p.resetRegs, ime := false, imeScheduled := false, halted := false, locked := false
    bus :=
      { rom := s.bus.rom, romLen := s.bus.romLen, cartKind := s.bus.cartKind, color := s.bus.color, eramSize := s.bus.eramSize
        romBank := 1#7, ramBank := 0#2, ramEnable := false, bankMode := .simple, vramBank := 0#1, wramBank := 1#3
        vram := ram.vram, eram := ram.eram, wram := ram.wram, oam := ram.oam, io := p.resetIo, hram := ram.hram
        ie := p.resetIe, bgPal := ram.bgPal, objPal := ram.objPal, divAcc := 0, timaAcc := 0, buttons := 0xFF#8
        dot := 0, hdmaSrc := 0x0000#16, hdmaDst := 0x8000#16, hdmaLen := 0, hdmaActive := false, fb := ram.fb }
    cycles := 0#32, stepCost := 0, frameReady := false, running := s.running, params := p }

/-- `reset()` (R450, R451). -/
def hostReset (ram : RamInit) (s : State) : State := resetState s.params ram s

/-- `construct()` (R450): no ROM, `running = 0`. -/
def construct (p : Params) (ram : RamInit) : Host.Outcome State Fault Refusal :=
  if paramsValid p then
    .next (resetState p ram { State.reset with bus := { Bus.reset with eramSize := p.eramDefaultSize } })
  else .refused .badParameters

/-- The cells of a byte sequence from an index on. -/
def Memory.ofBytes (i : Nat) : List Byte → Memory
  | [] => []
  | v :: vs => if v = Memory.blank then Memory.ofBytes (i + 1) vs else (i, v) :: Memory.ofBytes (i + 1) vs

/-- `CART_KIND` from the header (R106): `none` refuses the load. -/
def headerKind (rom : List Byte) : Option CartKind :=
  match rom[0x0147]? with
  | none => some .romOnly
  | some v => if v = 0x00#8 then some .romOnly else if v = 0x01#8 ∨ v = 0x02#8 ∨ v = 0x03#8 then some .mbc1 else none

/-- `ERAM_SIZE` from the header (R107). -/
def headerEram (p : Params) (rom : List Byte) : EramSize :=
  match rom[0x0149]? with
  | none => p.eramDefaultSize
  | some v =>
    if v = 0x01#8 then .kib2 else if v = 0x02#8 then .kib8 else if v = 0x03#8 then .kib32
    else if v = 0x04#8 then .kib128 else .absent

/-- `COLOR` from the header (R108). -/
def headerColor (rom : List Byte) : Bool :=
  match rom[0x0143]? with
  | none => false
  | some v => bitAt v 7

/-- `load(rom_bytes)` (R450): the ROM installed, the header read, the reset state established. -/
def load (rom : List Byte) (ram : RamInit) (s : State) : Host.Outcome State Fault Refusal :=
  match headerKind rom with
  | none => .refused (.unknownCartridge (rom.getD 0x0147 0x00#8))
  | some kind =>
    .next (resetState s.params ram
      { s with bus := { s.bus with rom := Memory.ofBytes 0 rom, romLen := rom.length, cartKind := kind
                                   color := headerColor rom, eramSize := headerEram s.params rom } })

/-- `start()`, `stop()`, `is_running()` (R461). -/
def start (s : State) : State := { s with running := true }
def stop (s : State) : State := { s with running := false }
def isRunning (s : State) : Bool := s.running

/-- `press_button(id)` (R462): an `id` outside 0..7 changes nothing. -/
def pressButton (id : Nat) (s : State) : State :=
  if id < 8 then { s with bus := { s.bus with buttons := withoutBit s.bus.buttons id } } else s

/-- `release_button(id)` (R462). -/
def releaseButton (id : Nat) (s : State) : State :=
  if id < 8 then { s with bus := { s.bus with buttons := withBit s.bus.buttons id } } else s

/-- The loop of `run_frame()` (R463) from a count `n`, for at most `fuel` steps. -/
def frameLoop : Nat → Nat → Bool → State → Host.Outcome (State × Bool) Fault Refusal
  | 0, _, vb, s => .next (s, vb)
  | fuel + 1, n, vb, s =>
    if n < Config.frameCycles then
      match step s with
      | .next t => frameLoop fuel (n + t.stepCost) (vb || t.frameReady) t
      | .fault f => .fault f
      | .refused r => .refused r
    else .next (s, vb)

/-- `run_frame()` (R463). Every step costs at least 4 cycles (60_exceptions.md R331), so 17556 steps always reach the budget. -/
def runFrame (s : State) : Host.Outcome (State × Bool) Fault Refusal :=
  if s.running then frameLoop (Config.frameCycles / 4) 0 false s else .next (s, false)

/-- `get_framebuffer()` (R465): the 92160 bytes of `FB`; those of a line not rendered since reset are `RAM_INIT`'s (log 12). -/
def getFramebuffer (s : State) : List Byte := (List.range 92160).map s.bus.fbByte

end Sys2Proof.Machine
end

