-- ==== Sys2Proof/Safety.lean ====
section
/-! DEFINITION. What a good state is (the invariants the spec states), and what a safe step is. -/

namespace Sys2Proof.Machine

/-- Every listed index is below `n`. -/
def Memory.below (m : Memory) (n : Nat) : Bool := m.all fun cell => decide (cell.1 < n)

/-- An array in canonical form with every index in range (20_memory.md R131). -/
def Memory.fits (m : Memory) (n : Nat) : Bool := m.wf && m.below n

/-- Framebuffer lines from `k` on: rising, below 144, 640 bytes each, none equal to what an unlisted line holds
(60_exceptions.md R407). -/
def linesFrom : Nat → List (Nat × List Byte) → Bool
  | _, [] => true
  | k, (ly, px) :: t => decide (k ≤ ly) && decide (ly < Config.vblankLine) && decide (px.length = 4 * Config.screenWidth)
    && decide (px ≠ Bus.blankLine) && linesFrom (ly + 1) t

namespace Bus

/-- Every array is canonical and in range (10_state.md R39, 20_memory.md R131, 60_exceptions.md R407). -/
def arraysWf (b : Bus) : Bool :=
  b.rom.fits b.romLen && b.vram.fits 0x4000 && b.eram.fits b.eramSize.bytes && b.wram.fits 0x8000 && b.oam.fits 0xA0
    && b.io.fits 0x80 && b.hram.fits 0x7F && b.bgPal.fits 0x40 && b.objPal.fits 0x40 && linesFrom 0 b.fb

/-- The bank registers: `rom_bank[4:0] != 0` (10_state.md R43) and `wram_bank != 0` (R44). -/
def banksWf (b : Bus) : Bool := decide (b.romBank.toNat % 32 ≠ 0) && decide (b.wramBank ≠ 0#3)

/-- The pixel pipeline (60_exceptions.md R390). -/
def ppuWf (b : Bus) : Bool :=
  decide (b.lyNat ≤ 153) && decide (b.dot < Config.lineCycles) && decide (b.dot % 4 = 0)
    && decide (b.ppuMode =
      if Config.vblankLine ≤ b.lyNat then 1
      else if b.dot < Config.drawingDot then 2
      else if b.dot < Config.hblankDot then 3 else 0)

/-- The timer (10_state.md R71): `div_acc < 256`; `tima_acc` is below the longest period (log 17). -/
def timerWf (b : Bus) : Bool := decide (b.divAcc < Config.dividerPeriod) && decide (b.timaAcc < 1024)

/-- The VRAM DMA (10_state.md R76): at most 128 blocks, and an armed copy has some left. -/
def hdmaWf (b : Bus) : Bool := decide (b.hdmaLen ≤ 128) && (!b.hdmaActive || decide (0 < b.hdmaLen))

/-- The joypad cell holds the select bits only (10_state.md R48). -/
def joypadWf (b : Bus) : Bool := decide (b.ioAt Io.p1 &&& 0xCF#8 = 0#8)

end Bus

/-- `F[3:0] = 0` (10_state.md R28). -/
def flagsWf (s : State) : Bool := decide (s.regs.f &&& 0x0F#8 = 0#8)

/-- The invariant of every state between system steps. -/
def Inv (s : State) : Prop :=
  flagsWf s = true ∧ s.bus.arraysWf = true ∧ s.bus.banksWf = true ∧ s.bus.ppuWf = true ∧ s.bus.timerWf = true
    ∧ s.bus.hdmaWf = true ∧ s.bus.joypadWf = true

/-- A safe step: the machine goes on. It stops only at an illegal opcode, or where it is locked already (60_exceptions.md R345). -/
def StepsSafely (s : State) : Prop := ∃ t, step s = .next t

/-- The states a run reaches. -/
inductive Reaches : State → State → Prop where
  | refl (s : State) : Reaches s s
  | tail {s t u : State} : Reaches s t → step t = .next u → Reaches s u

end Sys2Proof.Machine
end

