-- ==== Sys2Proof/WellFormed.lean ====
section
/-! DEFINITION. Well-formed instructions. Every operand byte of every row is legal (30_encoding.md R154), so one row only is
not an instruction of its own. -/

namespace Sys2Proof

/-- The row of the prefix is not well formed: its words are those of the secondary page's rows (30_encoding.md R155, R161), so
it has no encoding of its own. DEDUCED (log 9). -/
def Instr.wf : Instr → Bool
  | .prefixCB _ => false
  | _ => true

end Sys2Proof
end

