-- ==== Sys2Proof/Certificates/Slice0/Obligations.lean ====
section
/-! DEFINITION. The statements for the provers. The helpers under `Claims` spell out the spec's own notation (00_scope.md R7 to
R12, 30_encoding.md R142 to R149), so that a statement does not lean on the model's operations. -/

namespace Sys2Proof.Claims

open Sys2Proof.Machine

/-! ## Notation -/

/-- `v[15:8]` and `v[7:0]` (R7). -/
def high (v : Word) : Byte := v.extractLsb' 8 8
def low (v : Word) : Byte := v.extractLsb' 0 8

/-- `sext_16(b)` as R8 spells it. -/
def signed (b : Byte) : Word := if b.toNat < 128 then BitVec.ofNat 16 b.toNat else BitVec.ofNat 16 (0xFF00 + b.toNat)

/-- `F` from `fZ fN fH fC` in bits 7, 6, 5, 4, the low nibble zero (10_state.md R28). -/
def flagByte (z n h c : Bool) : Byte := BitVec.ofBool z ++ BitVec.ofBool n ++ BitVec.ofBool h ++ BitVec.ofBool c ++ 0#4

/-- `fZ fN fH fC` (R28). -/
def fZ (s : State) : Bool := s.regs.f.getLsbD 7
def fN (s : State) : Bool := s.regs.f.getLsbD 6
def fH (s : State) : Bool := s.regs.f.getLsbD 5
def fC (s : State) : Bool := s.regs.f.getLsbD 4

/-- `BC DE HL AF` (10_state.md R23). -/
def bc (s : State) : Word := s.regs.b ++ s.regs.c
def de (s : State) : Word := s.regs.d ++ s.regs.e
def hl (s : State) : Word := s.regs.h ++ s.regs.l
def af (s : State) : Word := s.regs.a ++ s.regs.f

/-- The registers of the selector (R9), and writing one. -/
def reg (r : Regs) : Reg8 → Byte
  | .b => r.b
  | .c => r.c
  | .d => r.d
  | .e => r.e
  | .h => r.h
  | .l => r.l
  | .a => r.a
def withReg (r : Regs) (i : Reg8) (v : Byte) : Regs :=
  match i with
  | .b => { r with b := v }
  | .c => { r with c := v }
  | .d => { r with d := v }
  | .e => { r with e := v }
  | .h => { r with h := v }
  | .l => { r with l := v }
  | .a => { r with a := v }

/-- The pairs of `rr` (R9), and writing one (R23). -/
def pair (r : Regs) : Pair → Word
  | .bc => r.b ++ r.c
  | .de => r.d ++ r.e
  | .hl => r.h ++ r.l
  | .sp => r.sp
def withPair (r : Regs) (p : Pair) (v : Word) : Regs :=
  match p with
  | .bc => { r with b := high v, c := low v }
  | .de => { r with d := high v, e := low v }
  | .hl => { r with h := high v, l := low v }
  | .sp => { r with sp := v }

/-- The pairs of `qq` (R9), and writing one (R23, R24: the low nibble of `F` is cleared). -/
def stackPair (r : Regs) : StackPair → Word
  | .bc => r.b ++ r.c
  | .de => r.d ++ r.e
  | .hl => r.h ++ r.l
  | .af => r.a ++ r.f
def withStackPair (r : Regs) (q : StackPair) (v : Word) : Regs :=
  match q with
  | .bc => { r with b := high v, c := low v }
  | .de => { r with d := high v, e := low v }
  | .hl => { r with h := high v, l := low v }
  | .af => { r with a := high v, f := low v &&& 0xF0#8 }

/-- A condition `cc` (30_encoding.md R145). -/
def holds (s : State) : Cond → Bool
  | .nz => !fZ s
  | .z => fZ s
  | .nc => !fC s
  | .c => fC s

/-- Reading `x[i]` (R9), and the bus after it. -/
def value (s : State) : Operand8 → Byte
  | .reg r => reg s.regs r
  | .memHL => s.bus.peek (hl s)
def busAfter (s : State) : Operand8 → Bus
  | .reg _ => s.bus
  | .memHL => s.bus.afterRead (hl s)

/-- `x[i] <- v` in a state whose operand has been read (R9). -/
def putOperand (s : State) (o : Operand8) (v : Byte) : State :=
  match o with
  | .reg r => { s with regs := withReg s.regs r v }
  | .memHL => { s with bus := (s.bus.afterRead (hl s)).write (hl s) v }

/-- A cost by operand: register or memory. -/
def costOf (o : Operand8) (r m : Nat) : Nat :=
  match o with
  | .reg _ => r
  | .memHL => m

/-- The selector codes (30_encoding.md R143 to R147). -/
def regCode : Reg8 → Nat
  | .b => 0
  | .c => 1
  | .d => 2
  | .e => 3
  | .h => 4
  | .l => 5
  | .a => 7
def operandCode : Operand8 → Nat
  | .reg r => regCode r
  | .memHL => 6
def pairCode : Pair → Nat
  | .bc => 0
  | .de => 1
  | .hl => 2
  | .sp => 3
def stackCode : StackPair → Nat
  | .bc => 0
  | .de => 1
  | .hl => 2
  | .af => 3
def condCode : Cond → Nat
  | .nz => 0
  | .z => 1
  | .nc => 2
  | .c => 3
def aluCode : AluOp → Nat
  | .add => 0
  | .adc => 1
  | .sub => 2
  | .sbc => 3
  | .and => 4
  | .xor => 5
  | .or => 6
  | .cp => 7
def rotCode : RotOp → Nat
  | .rlc => 0
  | .rrc => 1
  | .rl => 2
  | .rr => 3
  | .sla => 4
  | .sra => 5
  | .swap => 6
  | .srl => 7

/-- An opcode byte by its fields `x y z` (R142). -/
def opByte (x y z : Nat) : Byte := BitVec.ofNat 8 (64 * x + 8 * y + z)

/-- The bytes are the instruction: the encoder writes them and the decoder reads exactly them, whatever follows. -/
def Means (bytes : List Byte) (i : Instr) : Prop := encode i = bytes ∧ ∀ rest, decode (bytes ++ rest) = .ok (i, rest)

/-- `IF & IE & 0x1F` (60_exceptions.md R334). -/
def requests (s : State) : Byte := s.bus.ioAt 0x0F &&& s.bus.ie &&& 0x1F#8

/-- `Push16(v)` (R12), seen as its two bus writes. -/
def pushed (s : State) (v : Word) : Bus := (s.bus.write (s.regs.sp - 1#16) (high v)).write (s.regs.sp - 2#16) (low v)

/-- `Pop16()` (R12): the value, and the bus after the two reads. -/
def popped (s : State) : Word :=
  (s.bus.afterRead s.regs.sp).peek (s.regs.sp + 1#16) ++ s.bus.peek s.regs.sp
def busAfterPop (s : State) : Bus := (s.bus.afterRead s.regs.sp).afterRead (s.regs.sp + 1#16)

/-- The eleven illegal opcodes (30_encoding.md R152). -/
def illegalOpcodes : List Byte :=
  [0xD3#8, 0xDB#8, 0xDD#8, 0xE3#8, 0xE4#8, 0xEB#8, 0xEC#8, 0xED#8, 0xF4#8, 0xFC#8, 0xFD#8]

/-! ## The tables of 30_encoding.md -/

/-- The lengths of R155, by high and low digit; an illegal opcode is one byte (46_system.md R317). -/
def lengths : List (List Nat) :=
  [[1, 3, 1, 1, 1, 1, 2, 1, 3, 1, 1, 1, 1, 1, 2, 1], [2, 3, 1, 1, 1, 1, 2, 1, 2, 1, 1, 1, 1, 1, 2, 1],
   [2, 3, 1, 1, 1, 1, 2, 1, 2, 1, 1, 1, 1, 1, 2, 1], [2, 3, 1, 1, 1, 1, 2, 1, 2, 1, 1, 1, 1, 1, 2, 1]]
    ++ List.replicate 8 (List.replicate 16 1) ++
  [[1, 1, 3, 3, 3, 1, 2, 1, 1, 1, 3, 2, 3, 3, 2, 1], [1, 1, 3, 1, 3, 1, 2, 1, 1, 1, 3, 1, 3, 1, 2, 1],
   [2, 1, 1, 1, 1, 1, 2, 1, 2, 1, 3, 1, 1, 1, 2, 1], [2, 1, 1, 1, 1, 1, 2, 1, 2, 1, 3, 1, 1, 1, 2, 1]]
def length (op : Byte) : Nat := (lengths.getD (op.toNat / 16) []).getD (op.toNat % 16) 0

/-- The costs of R156, by high and low digit: the first number of `a/b`; 0 where there is no instruction of the page. -/
def costs : List (List Nat) :=
  [[4, 12, 8, 8, 4, 4, 8, 4, 20, 8, 8, 8, 4, 4, 8, 4], [4, 12, 8, 8, 4, 4, 8, 4, 12, 8, 8, 8, 4, 4, 8, 4],
   [12, 12, 8, 8, 4, 4, 8, 4, 12, 8, 8, 8, 4, 4, 8, 4], [12, 12, 8, 8, 12, 12, 12, 4, 12, 8, 8, 8, 4, 4, 8, 4]]
    ++ List.replicate 3 [4, 4, 4, 4, 4, 4, 8, 4, 4, 4, 4, 4, 4, 4, 8, 4] ++
  [[8, 8, 8, 8, 8, 8, 4, 8, 4, 4, 4, 4, 4, 4, 8, 4]]
    ++ List.replicate 4 [4, 4, 4, 4, 4, 4, 8, 4, 4, 4, 4, 4, 4, 4, 8, 4] ++
  [[20, 12, 16, 16, 24, 16, 8, 16, 20, 16, 16, 0, 24, 24, 8, 16], [20, 12, 16, 0, 24, 16, 8, 16, 20, 16, 16, 0, 24, 0, 8, 16],
   [12, 12, 8, 0, 0, 16, 8, 16, 16, 4, 16, 0, 0, 0, 8, 16], [12, 12, 8, 4, 0, 16, 8, 16, 12, 8, 16, 4, 0, 0, 8, 16]]

/-- The second number of `a/b` (R156), for the sixteen conditional opcodes. -/
def notTaken (op : Byte) : Option Nat :=
  if op = 0x20#8 ∨ op = 0x28#8 ∨ op = 0x30#8 ∨ op = 0x38#8 then some 8
  else if op = 0xC0#8 ∨ op = 0xC8#8 ∨ op = 0xD0#8 ∨ op = 0xD8#8 then some 8
  else if op = 0xC2#8 ∨ op = 0xCA#8 ∨ op = 0xD2#8 ∨ op = 0xDA#8 then some 12
  else if op = 0xC4#8 ∨ op = 0xCC#8 ∨ op = 0xD4#8 ∨ op = 0xDC#8 then some 12
  else none

/-- The condition in `op[4:3]` (R145). -/
def condOf (op : Byte) : Cond :=
  match op.toNat / 8 % 4 with
  | 0 => .nz
  | 1 => .z
  | 2 => .nc
  | _ => .c

/-- The cost of the instruction of an opcode and the byte after it (R156, R157). -/
def cost (op b1 : Byte) (s : State) : Nat :=
  if op = 0xCB#8 then (if b1.toNat % 8 ≠ 6 then 8 else if b1.toNat / 64 = 1 then 12 else 16)
  else
    let taken := (costs.getD (op.toNat / 16) []).getD (op.toNat % 16) 0
    match notTaken op with
    | some n => if holds s (condOf op) then taken else n
    | none => taken

/-! ## Fetching -/

/-- The three bytes from `PC` on, read through the bus decode; `PC` wraps (10_state.md R27). -/
def bytesAtPc (s : State) : List Byte :=
  [s.bus.peek s.regs.pc, s.bus.peek (s.regs.pc + 1#16), s.bus.peek (s.regs.pc + 2#16)]

/-- The state after fetching `n` bytes: `PC` moved on; a fetch from 0xFF00 that finds a selected button pressed requests the
joypad interrupt (20_memory.md R122). -/
def fetched (s : State) (n : Nat) : State :=
  { s with
    regs := { s.regs with pc := s.regs.pc + BitVec.ofNat 16 n }
    bus :=
      if ((List.range n).any fun k => s.regs.pc + BitVec.ofNat 16 k == 0xFF00#16) ∧ (s.bus.peek 0xFF00#16).toNat % 16 ≠ 15 then
        s.bus.setIo 0x0F (s.bus.ioAt 0x0F ||| 0x10#8)
      else s.bus }

/-- R330 (2) to (5) after a CPU step that returned the cost `stepCost`: timer, audio, pixel pipeline, `cycles`. -/
def devices (t : State) : State :=
  let timed := t.bus.timerStep t.stepCost
  let drawn := Bus.ppuStep t.params (timed.audioStep t.stepCost) t.stepCost
  { t with bus := drawn.1, frameReady := drawn.2, cycles := t.cycles + BitVec.ofNat 32 t.stepCost }

/-- What a system step makes of the CPU step's answer. -/
def thenDevices : Result → Result
  | .next t => .next (devices t)
  | .fault f => .fault f
  | .refused r => .refused r

/-- A chain of system steps, with the states after each of them. -/
inductive Chain : State → List State → State → Prop where
  | nil (s : State) : Chain s [] s
  | cons {s t u : State} {ts : List State} : step s = .next t → Chain t ts u → Chain s (t :: ts) u

/-- The cycles a chain took. -/
def spent (ts : List State) : Nat := (ts.map fun t => t.stepCost).sum

/-! ## Rotates -/

/-- The result and the new carry of the rotates and shifts on a byte `v` with carry-in `c`, as numbers (44_rotate_shift_bit.md
R261 to R273). -/
def rotated (op : RotOp) (v c : Nat) : Nat × Nat :=
  match op with
  | .rlc => (2 * v % 256 + v / 128, v / 128)
  | .rrc => (v / 2 + 128 * (v % 2), v % 2)
  | .rl => (2 * v % 256 + c, v / 128)
  | .rr => (v / 2 + 128 * c, v % 2)
  | .sla => (2 * v % 256, v / 128)
  | .sra => (v / 2 + 128 * (v / 128), v % 2)
  | .swap => (16 * (v % 16) + v / 16, 0)
  | .srl => (v / 2, v % 2)

/-! ## What an instruction reads and stores, by its opcode -/

/-- The opcode is one of the given ones. -/
def among (op : Byte) (l : List Nat) : Bool := l.contains op.toNat

/-- The addresses the instruction of these bytes stores to (40_load8.md to 46_system.md). -/
def targets (op b1 b2 : Byte) (s : State) : List Word :=
  let n := op.toNat
  let stack := [s.regs.sp - 1#16, s.regs.sp - 2#16]
  if n = 0x02 then [bc s]
  else if n = 0x12 then [de s]
  else if among op [0x22, 0x32, 0x34, 0x35, 0x36] then [hl s]
  else if n = 0x08 then [b2 ++ b1, (b2 ++ b1) + 1#16]
  else if n / 8 = 14 ∧ n ≠ 0x76 then [hl s]
  else if among op [0xC5, 0xD5, 0xE5, 0xF5, 0xCD] then stack
  else if n / 64 = 3 ∧ n % 8 = 7 then stack
  else if among op [0xC4, 0xCC, 0xD4, 0xDC] then (if holds s (condOf op) then stack else [])
  else if n = 0xE0 then [0xFF#8 ++ b1]
  else if n = 0xE2 then [0xFF#8 ++ s.regs.c]
  else if n = 0xEA then [b2 ++ b1]
  else if n = 0xCB ∧ b1.toNat % 8 = 6 ∧ b1.toNat / 64 ≠ 1 then [hl s]
  else []

/-- The addresses it reads as data. -/
def sources (op b1 b2 : Byte) (s : State) : List Word :=
  let n := op.toNat
  let stack := [s.regs.sp, s.regs.sp + 1#16]
  if n = 0x0A then [bc s]
  else if n = 0x1A then [de s]
  else if among op [0x2A, 0x3A, 0x34, 0x35] then [hl s]
  else if (n / 64 = 1 ∨ n / 64 = 2) ∧ n % 8 = 6 ∧ n ≠ 0x76 then [hl s]
  else if among op [0xC1, 0xD1, 0xE1, 0xF1, 0xC9, 0xD9] then stack
  else if among op [0xC0, 0xC8, 0xD0, 0xD8] then (if holds s (condOf op) then stack else [])
  else if n = 0xF0 then [0xFF#8 ++ b1]
  else if n = 0xF2 then [0xFF#8 ++ s.regs.c]
  else if n = 0xFA then [b2 ++ b1]
  else if n = 0xCB ∧ b1.toNat % 8 = 6 then [hl s]
  else []

/-- A cell a store changes with no other effect: RAM, `IE`, or nothing at all (the store is dropped). -/
def plain (c : Cell) : Prop := c.isRam = true ∨ c = .ie ∨ c = .nothing

/-! ## Rendering, in numbers -/

/-- A bit of a byte as a number. -/
def bit (v : Byte) (i : Nat) : Nat := v.toNat / 2 ^ i % 2

/-- `LCDC[i] = 1`. -/
def lcdc (b : Bus) (i : Nat) : Bool := (b.ioAt 0x40).getLsbD i

/-- The colour index of a tile row's two planes at a bit (R401, R405). -/
def colour (b : Bus) (base bitNo : Nat) : Nat := 2 * bit (b.vram.read (base + 1)) bitNo + bit (b.vram.read base) bitNo

/-- `(pal >> (2 * ci)) & 3` (R400). -/
def shadeOf (pal : Byte) (ci : Nat) : Nat := pal.toNat / 4 ^ ci % 4

/-- The base offset of a tile row in the area `LCDC[4]` selects (R401). -/
def tileRow (b : Bus) (tid : Byte) (row : Nat) : Nat :=
  2 * row +
    if lcdc b 4 then 16 * tid.toNat
    else if tid.toNat < 128 then 0x1000 + 16 * tid.toNat else 0x1000 + 16 * tid.toNat - 16 * 256

/-- The shade of the tile map at `map` at pixel `(px, py)` of it (R400, R402). -/
def mapShade (b : Bus) (map px py : Nat) : Nat :=
  shadeOf (b.ioAt 0x47) (colour b (tileRow b (b.vram.read (map + py / 8 * 32 + px / 8)) (py % 8)) (7 - px % 8))

/-- The background shade (R400). -/
def background (b : Bus) (ly x : Nat) : Nat :=
  if lcdc b 0 then
    mapShade b (if lcdc b 3 then 0x1C00 else 0x1800) ((x + (b.ioAt 0x43).toNat) % 256) ((ly + (b.ioAt 0x42).toNat) % 256)
  else 0

/-- The shade under the sprites with `LAYERS_ENABLED`: the window where it covers (R402), else the background. -/
def underSprites (b : Bus) (ly x : Nat) : Nat :=
  let wy := (b.ioAt 0x4A).toNat
  let wx := (b.ioAt 0x4B).toNat
  if lcdc b 0 ∧ lcdc b 5 ∧ wy ≤ ly ∧ wx ≤ x + 7 then
    mapShade b (if lcdc b 6 then 0x1C00 else 0x1800) (x + 7 - wx) (ly - wy)
  else background b ly x

/-- The bytes `Y, X, tile, attr` of sprite `i` (R403). -/
def spriteY (b : Bus) (i : Nat) : Nat := (b.oam.read (4 * i)).toNat
def spriteX (b : Bus) (i : Nat) : Nat := (b.oam.read (4 * i + 1)).toNat
def spriteTile (b : Bus) (i : Nat) : Nat := (b.oam.read (4 * i + 2)).toNat
def spriteAttr (b : Bus) (i : Nat) : Byte := b.oam.read (4 * i + 3)

/-- The sprite height (R403). -/
def spriteSize (b : Bus) : Nat := if lcdc b 2 then 16 else 8

/-- The kept entries of a line: the first ten that intersect it, in table order (R403). -/
def kept (b : Bus) (ly : Nat) : List Nat :=
  ((List.range 40).filter fun i => decide (spriteY b i ≤ ly + 16 ∧ ly + 16 < spriteY b i + spriteSize b)).take 10

/-- The colour index of sprite `i` at column `x` of line `ly`, where the sprite reaches that column (R405). -/
def spriteColour (b : Bus) (ly x i : Nat) : Nat :=
  let line := ly + 16 - spriteY b i
  let row := if bit (spriteAttr b i) 6 = 1 then spriteSize b - 1 - line else line
  let tile := if spriteSize b = 16 then spriteTile b i / 2 * 2 else spriteTile b i
  let col := x + 8 - spriteX b i
  colour b (16 * tile + 2 * row) (if bit (spriteAttr b i) 5 = 1 then col else 7 - col)

/-- Sprite `i` shows at column `x` of line `ly` (R405): it reaches the column, it is not transparent there, and its priority
bit does not hide it behind a shade other than 0. -/
def visible (b : Bus) (ly x i : Nat) : Prop :=
  spriteX b i ≤ x + 8 ∧ x < spriteX b i ∧ spriteColour b ly x i ≠ 0 ∧
    ¬(bit (spriteAttr b i) 7 = 1 ∧ underSprites b ly x ≠ 0)

/-- The shade a sprite shows (R405). -/
def spriteShade (b : Bus) (ly x i : Nat) : Nat :=
  shadeOf (if bit (spriteAttr b i) 4 = 1 then b.ioAt 0x49 else b.ioAt 0x48) (spriteColour b ly x i)

/-- `SHADE_RGBA[s][k]` (R406). -/
def shadeByte (p : Params) (sh k : Nat) : Byte :=
  let c := if sh = 0 then p.shade0 else if sh = 1 then p.shade1 else if sh = 2 then p.shade2 else p.shade3
  if k = 0 then c.r else if k = 1 then c.g else if k = 2 then c.b else c.a

/-- After the line is rendered, the four framebuffer bytes of column `x` are those of shade `sh` (R399). -/
def Shows (p : Params) (b : Bus) (ly x sh : Nat) : Prop :=
  ∀ k, k < 4 → (Bus.renderScanline p b ly).fbByte ((ly * 160 + x) * 4 + k) = shadeByte p sh k

/-! ## Loops of the rules -/

/-- `while acc >= period: (acc <- acc - period; b <- tick b)`, for at most the given number of rounds. -/
def whileLoop (period : Nat) (tick : Bus → Bus) : Nat → Nat → Bus → Nat × Bus
  | 0, acc, b => (acc, b)
  | n + 1, acc, b => if period ≤ acc then whileLoop period tick n (acc - period) (tick b) else (acc, b)

/-- One round of R425's loop, with the addresses the loop started from. -/
def copyByte (src dst : Word) (b : Bus) (i : Nat) : Bus :=
  let d := dst + BitVec.ofNat 16 i
  let v := b.peek (src + BitVec.ofNat 16 i)
  let b' := b.afterRead (src + BitVec.ofNat 16 i)
  if 0x8000 ≤ d.toNat ∧ d.toNat ≤ 0x9FFF then
    { b' with vram := b'.vram.write ((if b.color then b.vramBank.toNat else 0) * 0x2000 + (d.toNat - 0x8000)) v }
  else b'

end Sys2Proof.Claims

open Sys2Proof Sys2Proof.Machine Sys2Proof.Claims

/-! ## Encoding -/

/-- Words written out bit by bit from the encodings of 40_load8.md to 46_system.md decode to their instructions. -/
def Obligations.DecodeKnownWords : Prop :=
  decode [0b01000001#8] = .ok (.ldB_C, [])
    ∧ decode [0b00111110#8, 0x7F#8] = .ok (.ldA_d8 0x7F#8, [])
    ∧ decode [0b11111010#8, 0x44#8, 0xFF#8] = .ok (.ldA_MemA16 0xFF44#16, [])
    ∧ decode [0b00100001#8, 0x34#8, 0x12#8] = .ok (.ldHL_d16 0x1234#16, [])
    ∧ decode [0b11110101#8] = .ok (.pushAF, [])
    ∧ decode [0b10011110#8] = .ok (.sbcA_MemHL, [])
    ∧ decode [0b11101110#8, 0x0F#8] = .ok (.xorA_d8 0x0F#8, [])
    ∧ decode [0b00011001#8] = .ok (.addHL_DE, [])
    ∧ decode [0b00011111#8] = .ok (.rra, [])
    ∧ decode [0b00111000#8, 0x80#8] = .ok (.jrC 0x80#8, [])
    ∧ decode [0b11001101#8, 0x34#8, 0x12#8] = .ok (.call 0x1234#16, [])
    ∧ decode [0b11101111#8] = .ok (.rst28, [])
    ∧ decode [0b01110110#8] = .ok (.halt, [])
    ∧ decode [0b11001011#8, 0b00110111#8] = .ok (.swapA, [])
    ∧ decode [0b11001011#8, 0b01100101#8] = .ok (.bit4_L, [])
    ∧ decode [0b11001011#8, 0b11111110#8] = .ok (.set7_MemHL, [])
    ∧ decode [0b11010011#8] = .ok (.illegalD3, [])

/-- Decoding undoes encoding for every well-formed instruction, whatever bytes follow, and encoding undoes decoding for every
byte sequence: "every bit of every legal opcode is significant and every operand byte value is legal" (R154). -/
def Obligations.DecodeEncodeRoundTrip : Prop :=
  (∀ (i : Instr) (rest : List Byte), i.wf = true → decode (encode i ++ rest) = .ok (i, rest))
    ∧ ∀ (bytes rest : List Byte) (i : Instr), decode bytes = .ok (i, rest) → i.wf = true ∧ encode i ++ rest = bytes

/-- R140: an instruction is 1, 2 or 3 bytes long; its first byte alone determines the length; with the prefix 0xCB it is 2 bytes
long whatever the second byte is. Fewer bytes than that are no instruction. -/
def Obligations.LengthByOpcode : Prop :=
  (∀ (op b1 b2 : Byte) (rest : List Byte),
      1 ≤ length op ∧ length op ≤ 3 ∧ ∃ i, i.wf = true ∧ (encode i).length = length op
        ∧ decode (op :: b1 :: b2 :: rest) = .ok (i, (op :: b1 :: b2 :: rest).drop (length op)))
    ∧ length 0xCB#8 = 2
    ∧ decode [] = .error .empty
    ∧ ∀ (op : Byte) (bytes : List Byte), (op :: bytes).length < length op → decode (op :: bytes) = .error .truncated

/-! ## Stepping -/

/-- A STEP RUNS THE DECODED INSTRUCTION (R333 (d), R155): on a machine that neither idles, nor is locked, nor dispatches, one step
is the meaning of the instruction at `PC`, in the state with its bytes fetched, followed by the devices. The bytes always are an
instruction. -/
def Obligations.StepRunsDecoded : Prop :=
  ∀ (s : State) (i : Instr) (rest : List Byte),
    s.locked = false → s.halted = false → s.imeScheduled = false → (s.ime = false ∨ requests s = 0#8) →
      decode (bytesAtPc s) = .ok (i, rest) →
        i.wf = true ∧ rest.length ≤ 2 ∧ step s = thenDevices (exec i (fetched s (3 - rest.length)))

/-- R330: the CPU step, then the timer, the audio and the pixel pipeline with the cost it returned, then `cycles`; if the CPU step
faults nothing else happens. The audio step changes nothing (R430). -/
def Obligations.SystemStepOrder : Prop :=
  (∀ s : State, step s = thenDevices (cpuStep s)) ∧ ∀ (b : Bus) (c : Nat), b.audioStep c = b

/-- R331: every value the CPU step returns is one of 4, 8, 12, 16, 20, 24. -/
def Obligations.CostBound : Prop :=
  ∀ s t : State, cpuStep s = .next t →
    t.stepCost = 4 ∨ t.stepCost = 8 ∨ t.stepCost = 12 ∨ t.stepCost = 16 ∨ t.stepCost = 20 ∨ t.stepCost = 24

/-- R156, R157: every legal opcode of both pages answers a next state, with the cost of the table: the first number of `a/b` if the
condition is true, the second if not. -/
def Obligations.CostTable : Prop :=
  ∀ (op b1 b2 : Byte) (s : State), op ∉ illegalOpcodes →
    ∃ t, exec (decodeOp op b1 b2) s = .next t ∧ t.stepCost = cost op b1 s

/-- R337, R339: the lowest pending request is dispatched instead of fetching: `ime` and its bit of `IF` are cleared, `PC` is
pushed, `PC` is 0x0040 + 8 * i, the cost is 20; nothing else changes. -/
def Obligations.InterruptDispatch : Prop :=
  ∀ (s : State) (i : Nat),
    s.locked = false → s.halted = false → (s.ime = true ∨ s.imeScheduled = true) → i < 5 →
      (requests s).getLsbD i = true → (∀ j, j < i → (requests s).getLsbD j = false) →
        ¬(s.regs.sp.toNat < s.params.spGuardThreshold.toNat) →
          cpuStep s = .next { s with
            regs := { s.regs with sp := s.regs.sp - 2#16, pc := BitVec.ofNat 16 (0x40 + 8 * i) }
            ime := false
            imeScheduled := false
            bus := pushed { s with bus := s.bus.setIo 0x0F (s.bus.ioAt 0x0F &&& ~~~(1#8 <<< i)) } s.regs.pc
            stepCost := 20 }

/-- R340: below the threshold the pending requests are discarded and the step goes on with the ordinary fetch: it is the step of
the state in which all of `IF` is 0, and that state's `PC`, `SP` and `ime` are the old ones. -/
def Obligations.GuardDiscards : Prop :=
  ∀ s : State, s.locked = false → s.halted = false → s.imeScheduled = false → s.ime = true → requests s ≠ 0#8 →
    s.regs.sp.toNat < s.params.spGuardThreshold.toNat →
      step s = step { s with bus := s.bus.setIo 0x0F 0#8 }
        ∧ requests { s with bus := s.bus.setIo 0x0F 0#8 } = 0#8

/-- R317: each of the eleven opcodes is a fault that sets `locked` and changes nothing else; a step that fetches one answers it,
`PC` after the opcode, with no device stepped. R345, R333 (a): a locked machine has no further step; that a step of it answers the fault `locked` is the
model's reading, not the spec's words (DEDUCED, log 5). -/
def Obligations.IllegalOpcodeFaults : Prop :=
  (Means [0xD3#8] .illegalD3 ∧ ∀ s, exec .illegalD3 s = .fault (.illegalOpcode 0xD3#8 { s with locked := true }))
    ∧ (Means [0xDB#8] .illegalDB ∧ ∀ s, exec .illegalDB s = .fault (.illegalOpcode 0xDB#8 { s with locked := true }))
    ∧ (Means [0xDD#8] .illegalDD ∧ ∀ s, exec .illegalDD s = .fault (.illegalOpcode 0xDD#8 { s with locked := true }))
    ∧ (Means [0xE3#8] .illegalE3 ∧ ∀ s, exec .illegalE3 s = .fault (.illegalOpcode 0xE3#8 { s with locked := true }))
    ∧ (Means [0xE4#8] .illegalE4 ∧ ∀ s, exec .illegalE4 s = .fault (.illegalOpcode 0xE4#8 { s with locked := true }))
    ∧ (Means [0xEB#8] .illegalEB ∧ ∀ s, exec .illegalEB s = .fault (.illegalOpcode 0xEB#8 { s with locked := true }))
    ∧ (Means [0xEC#8] .illegalEC ∧ ∀ s, exec .illegalEC s = .fault (.illegalOpcode 0xEC#8 { s with locked := true }))
    ∧ (Means [0xED#8] .illegalED ∧ ∀ s, exec .illegalED s = .fault (.illegalOpcode 0xED#8 { s with locked := true }))
    ∧ (Means [0xF4#8] .illegalF4 ∧ ∀ s, exec .illegalF4 s = .fault (.illegalOpcode 0xF4#8 { s with locked := true }))
    ∧ (Means [0xFC#8] .illegalFC ∧ ∀ s, exec .illegalFC s = .fault (.illegalOpcode 0xFC#8 { s with locked := true }))
    ∧ (Means [0xFD#8] .illegalFD ∧ ∀ s, exec .illegalFD s = .fault (.illegalOpcode 0xFD#8 { s with locked := true }))
    ∧ (∀ (s : State) (op : Byte), op ∈ illegalOpcodes → s.bus.peek s.regs.pc = op →
        s.locked = false → s.halted = false → s.imeScheduled = false → (s.ime = false ∨ requests s = 0#8) →
          step s = .fault (.illegalOpcode op { fetched s 1 with locked := true }))
    ∧ ∀ s : State, s.locked = true → step s = .fault (.locked s)

/-- A step that is not locked ends in a next state, or in the one fault `IllegalOpcode(op)` with `op` one of the eleven, left
locked; it never refuses (R345, R84, R98). -/
def Obligations.StepStopsOnlyAtIllegal : Prop :=
  ∀ s : State, s.locked = false →
    (∃ t, step s = .next t) ∨
      ∃ op left, op ∈ illegalOpcodes ∧ left.locked = true ∧ step s = .fault (.illegalOpcode op left)

/-! ## 8-bit loads -/

/-- R171 to R173: `LD r,r'`, `LD r,d8`, `LD r,(HL)`, with their encodings, costs and everything they leave unchanged. -/
def Obligations.LoadRegister : Prop :=
  (∀ dst src : Reg8, Means [opByte 1 (regCode dst) (regCode src)] (.loadReg dst src)
      ∧ ∀ s, exec (.loadReg dst src) s = .next { s with regs := withReg s.regs dst (reg s.regs src), stepCost := 4 })
    ∧ (∀ (dst : Reg8) (n : Byte), Means [opByte 0 (regCode dst) 6, n] (.loadImm dst n)
      ∧ ∀ s, exec (.loadImm dst n) s = .next { s with regs := withReg s.regs dst n, stepCost := 8 })
    ∧ ∀ dst : Reg8, Means [opByte 1 (regCode dst) 6] (.loadFromHL dst)
      ∧ ∀ s, exec (.loadFromHL dst) s = .next { s with
          regs := withReg s.regs dst (s.bus.peek (hl s)), bus := s.bus.afterRead (hl s), stepCost := 8 }

/-- R174, R175: `LD (HL),r` and `LD (HL),d8`. -/
def Obligations.StoreAtHl : Prop :=
  (∀ src : Reg8, Means [opByte 1 6 (regCode src)] (.storeToHL src)
      ∧ ∀ s, exec (.storeToHL src) s = .next { s with bus := s.bus.write (hl s) (reg s.regs src), stepCost := 8 })
    ∧ ∀ n : Byte, Means [0x36#8, n] (.ldMemHL_d8 n)
      ∧ ∀ s, exec (.ldMemHL_d8 n) s = .next { s with bus := s.bus.write (hl s) n, stepCost := 12 }

/-- R176, R177, R180, R182, R184: the loads of `A` from `(BC)`, `(DE)`, `(a16)`, `(a8)`, `(C)`. -/
def Obligations.LoadAccumulator : Prop :=
  (Means [0x0A#8] .ldA_MemBC ∧ ∀ s, exec .ldA_MemBC s = .next { s with
      regs := { s.regs with a := s.bus.peek (bc s) }, bus := s.bus.afterRead (bc s), stepCost := 8 })
    ∧ (Means [0x1A#8] .ldA_MemDE ∧ ∀ s, exec .ldA_MemDE s = .next { s with
      regs := { s.regs with a := s.bus.peek (de s) }, bus := s.bus.afterRead (de s), stepCost := 8 })
    ∧ (∀ nn : Word, Means [0xFA#8, low nn, high nn] (.ldA_MemA16 nn) ∧ ∀ s, exec (.ldA_MemA16 nn) s = .next { s with
      regs := { s.regs with a := s.bus.peek nn }, bus := s.bus.afterRead nn, stepCost := 16 })
    ∧ (∀ n : Byte, Means [0xF0#8, n] (.ldhA_MemA8 n) ∧ ∀ s, exec (.ldhA_MemA8 n) s = .next { s with
      regs := { s.regs with a := s.bus.peek (0xFF#8 ++ n) }, bus := s.bus.afterRead (0xFF#8 ++ n), stepCost := 12 })
    ∧ (Means [0xF2#8] .ldA_MemC ∧ ∀ s, exec .ldA_MemC s = .next { s with
      regs := { s.regs with a := s.bus.peek (0xFF#8 ++ s.regs.c) }, bus := s.bus.afterRead (0xFF#8 ++ s.regs.c), stepCost := 8 })

/-- R178, R179, R181, R183, R185: the stores of `A` to `(BC)`, `(DE)`, `(a16)`, `(a8)`, `(C)`. -/
def Obligations.StoreAccumulator : Prop :=
  (Means [0x02#8] .ldMemBC_A
      ∧ ∀ s, exec .ldMemBC_A s = .next { s with bus := s.bus.write (bc s) s.regs.a, stepCost := 8 })
    ∧ (Means [0x12#8] .ldMemDE_A
      ∧ ∀ s, exec .ldMemDE_A s = .next { s with bus := s.bus.write (de s) s.regs.a, stepCost := 8 })
    ∧ (∀ nn : Word, Means [0xEA#8, low nn, high nn] (.ldMemA16_A nn)
      ∧ ∀ s, exec (.ldMemA16_A nn) s = .next { s with bus := s.bus.write nn s.regs.a, stepCost := 16 })
    ∧ (∀ n : Byte, Means [0xE0#8, n] (.ldhMemA8_A n)
      ∧ ∀ s, exec (.ldhMemA8_A n) s = .next { s with bus := s.bus.write (0xFF#8 ++ n) s.regs.a, stepCost := 12 })
    ∧ (Means [0xE2#8] .ldMemC_A
      ∧ ∀ s, exec .ldMemC_A s = .next { s with bus := s.bus.write (0xFF#8 ++ s.regs.c) s.regs.a, stepCost := 8 })

/-- R186 to R189: the loads and stores of `A` at `HL` that then move `HL` by one, modulo 2^16. -/
def Obligations.LoadStoreStep : Prop :=
  (Means [0x22#8] .ldMemHLI_A ∧ ∀ s, exec .ldMemHLI_A s = .next { s with
      regs := withPair s.regs .hl (hl s + 1#16), bus := s.bus.write (hl s) s.regs.a, stepCost := 8 })
    ∧ (Means [0x32#8] .ldMemHLD_A ∧ ∀ s, exec .ldMemHLD_A s = .next { s with
      regs := withPair s.regs .hl (hl s - 1#16), bus := s.bus.write (hl s) s.regs.a, stepCost := 8 })
    ∧ (Means [0x2A#8] .ldA_MemHLI ∧ ∀ s, exec .ldA_MemHLI s = .next { s with
      regs := { withPair s.regs .hl (hl s + 1#16) with a := s.bus.peek (hl s) }, bus := s.bus.afterRead (hl s), stepCost := 8 })
    ∧ (Means [0x3A#8] .ldA_MemHLD ∧ ∀ s, exec .ldA_MemHLD s = .next { s with
      regs := { withPair s.regs .hl (hl s - 1#16) with a := s.bus.peek (hl s) }, bus := s.bus.afterRead (hl s), stepCost := 8 })

/-! ## 16-bit loads and the stack -/

/-- R201, R203: `LD rr,d16` and `LD SP,HL`. -/
def Obligations.LoadPair : Prop :=
  (∀ (p : Pair) (nn : Word), Means [opByte 0 (2 * pairCode p) 1, low nn, high nn] (.loadPair p nn)
      ∧ ∀ s, exec (.loadPair p nn) s = .next { s with regs := withPair s.regs p nn, stepCost := 12 })
    ∧ (Means [0xF9#8] .ldSP_HL
      ∧ ∀ s, exec .ldSP_HL s = .next { s with regs := { s.regs with sp := hl s }, stepCost := 8 })

/-- R202, R205: `LD (a16),SP` stores the low byte first and at the lower address; `PUSH qq` stores the high byte at `SP - 1`, then
the low byte at `SP - 2`. -/
def Obligations.StoreSpAndPush : Prop :=
  (∀ nn : Word, Means [0x08#8, low nn, high nn] (.ldMemA16_SP nn)
      ∧ ∀ s, exec (.ldMemA16_SP nn) s = .next { s with
          bus := (s.bus.write nn (low s.regs.sp)).write (nn + 1#16) (high s.regs.sp), stepCost := 20 })
    ∧ ∀ q : StackPair, Means [opByte 3 (2 * stackCode q) 5] (.push q)
      ∧ ∀ s, exec (.push q) s = .next { s with
          regs := { s.regs with sp := s.regs.sp - 2#16 }, bus := pushed s (stackPair s.regs q), stepCost := 16 }

/-- R206, R207: `POP qq` reads the low byte at `SP` and the high byte at `SP + 1`; popped into `AF`, bits 3:0 are discarded. -/
def Obligations.PopPair : Prop :=
  ∀ q : StackPair, Means [opByte 3 (2 * stackCode q) 1] (.pop q)
    ∧ ∀ s, exec (.pop q) s = .next { s with
        regs := withStackPair { s.regs with sp := s.regs.sp + 2#16 } q (popped s), bus := busAfterPop s, stepCost := 12 }

/-! ## 8-bit arithmetic and logic -/

/-- R216, R217: `ADD A,s` and `ADC A,s` in the three operand forms: the sum modulo 256, `H` the carry out of bit 3, `C` the carry
out of bit 7, both of the unbounded sums. -/
def Obligations.AddAccumulator : Prop :=
  let sum (a v : Byte) (c : Nat) (r : Regs) : Regs :=
    { r with
      a := BitVec.ofNat 8 (a.toNat + v.toNat + c)
      f := flagByte (decide ((a.toNat + v.toNat + c) % 256 = 0)) false
        (decide (a.toNat % 16 + v.toNat % 16 + c > 0xF)) (decide (a.toNat + v.toNat + c > 0xFF)) }
  (∀ o : Operand8, Means [opByte 2 0 (operandCode o)] (.aluOperand .add o)
      ∧ ∀ s, exec (.aluOperand .add o) s = .next { s with
          regs := sum s.regs.a (value s o) 0 s.regs, bus := busAfter s o, stepCost := costOf o 4 8 })
    ∧ (∀ n : Byte, Means [0xC6#8, n] (.aluImm .add n)
      ∧ ∀ s, exec (.aluImm .add n) s = .next { s with regs := sum s.regs.a n 0 s.regs, stepCost := 8 })
    ∧ (∀ o : Operand8, Means [opByte 2 1 (operandCode o)] (.aluOperand .adc o)
      ∧ ∀ s, exec (.aluOperand .adc o) s = .next { s with
          regs := sum s.regs.a (value s o) (fC s).toNat s.regs, bus := busAfter s o, stepCost := costOf o 4 8 })
    ∧ ∀ n : Byte, Means [0xCE#8, n] (.aluImm .adc n)
      ∧ ∀ s, exec (.aluImm .adc n) s = .next { s with regs := sum s.regs.a n (fC s).toNat s.regs, stepCost := 8 }

/-- R218, R219, R223: `SUB s`, `SBC A,s`, `CP s` in the three operand forms: the difference modulo 256, `H` and `C` borrows compared
on unbounded naturals; `CP` writes the flags only. -/
def Obligations.SubtractAccumulator : Prop :=
  let flags (a v : Byte) (c : Nat) : Byte :=
    flagByte (decide ((a.toNat + 512 - v.toNat - c) % 256 = 0)) true
      (decide (a.toNat % 16 < v.toNat % 16 + c)) (decide (a.toNat < v.toNat + c))
  let diff (a v : Byte) (c : Nat) (r : Regs) : Regs :=
    { r with a := BitVec.ofNat 8 (a.toNat + 512 - v.toNat - c), f := flags a v c }
  (∀ o : Operand8, Means [opByte 2 2 (operandCode o)] (.aluOperand .sub o)
      ∧ ∀ s, exec (.aluOperand .sub o) s = .next { s with
          regs := diff s.regs.a (value s o) 0 s.regs, bus := busAfter s o, stepCost := costOf o 4 8 })
    ∧ (∀ n : Byte, Means [0xD6#8, n] (.aluImm .sub n)
      ∧ ∀ s, exec (.aluImm .sub n) s = .next { s with regs := diff s.regs.a n 0 s.regs, stepCost := 8 })
    ∧ (∀ o : Operand8, Means [opByte 2 3 (operandCode o)] (.aluOperand .sbc o)
      ∧ ∀ s, exec (.aluOperand .sbc o) s = .next { s with
          regs := diff s.regs.a (value s o) (fC s).toNat s.regs, bus := busAfter s o, stepCost := costOf o 4 8 })
    ∧ (∀ n : Byte, Means [0xDE#8, n] (.aluImm .sbc n)
      ∧ ∀ s, exec (.aluImm .sbc n) s = .next { s with regs := diff s.regs.a n (fC s).toNat s.regs, stepCost := 8 })
    ∧ (∀ o : Operand8, Means [opByte 2 7 (operandCode o)] (.aluOperand .cp o)
      ∧ ∀ s, exec (.aluOperand .cp o) s = .next { s with
          regs := { s.regs with f := flags s.regs.a (value s o) 0 }, bus := busAfter s o, stepCost := costOf o 4 8 })
    ∧ ∀ n : Byte, Means [0xFE#8, n] (.aluImm .cp n)
      ∧ ∀ s, exec (.aluImm .cp n) s = .next { s with regs := { s.regs with f := flags s.regs.a n 0 }, stepCost := 8 }

/-- R220 to R222: `AND s`, `XOR s`, `OR s` in the three operand forms. -/
def Obligations.LogicAccumulator : Prop :=
  let result (v : Byte) (h : Bool) (r : Regs) : Regs := { r with a := v, f := flagByte (decide (v = 0#8)) false h false }
  (∀ o : Operand8, Means [opByte 2 4 (operandCode o)] (.aluOperand .and o)
      ∧ ∀ s, exec (.aluOperand .and o) s = .next { s with
          regs := result (s.regs.a &&& value s o) true s.regs, bus := busAfter s o, stepCost := costOf o 4 8 })
    ∧ (∀ n : Byte, Means [0xE6#8, n] (.aluImm .and n)
      ∧ ∀ s, exec (.aluImm .and n) s = .next { s with regs := result (s.regs.a &&& n) true s.regs, stepCost := 8 })
    ∧ (∀ o : Operand8, Means [opByte 2 5 (operandCode o)] (.aluOperand .xor o)
      ∧ ∀ s, exec (.aluOperand .xor o) s = .next { s with
          regs := result (s.regs.a ^^^ value s o) false s.regs, bus := busAfter s o, stepCost := costOf o 4 8 })
    ∧ (∀ n : Byte, Means [0xEE#8, n] (.aluImm .xor n)
      ∧ ∀ s, exec (.aluImm .xor n) s = .next { s with regs := result (s.regs.a ^^^ n) false s.regs, stepCost := 8 })
    ∧ (∀ o : Operand8, Means [opByte 2 6 (operandCode o)] (.aluOperand .or o)
      ∧ ∀ s, exec (.aluOperand .or o) s = .next { s with
          regs := result (s.regs.a ||| value s o) false s.regs, bus := busAfter s o, stepCost := costOf o 4 8 })
    ∧ ∀ n : Byte, Means [0xF6#8, n] (.aluImm .or n)
      ∧ ∀ s, exec (.aluImm .or n) s = .next { s with regs := result (s.regs.a ||| n) false s.regs, stepCost := 8 }

/-- R224 to R227: `INC` and `DEC` of a register or of the byte at `HL` (one read, then one write); `fC` is kept. -/
def Obligations.IncrementDecrement : Prop :=
  (∀ o : Operand8, Means [opByte 0 (operandCode o) 4] (.inc o)
      ∧ ∀ s, exec (.inc o) s = .next
          (let v := value s o
           let t := putOperand s o (BitVec.ofNat 8 (v.toNat + 1))
           { t with
             regs := { t.regs with f := flagByte (decide (v = 0xFF#8)) false (decide (v.toNat % 16 = 0xF)) (fC s) }
             stepCost := costOf o 4 12 }))
    ∧ ∀ o : Operand8, Means [opByte 0 (operandCode o) 5] (.dec o)
      ∧ ∀ s, exec (.dec o) s = .next
          (let v := value s o
           let t := putOperand s o (BitVec.ofNat 8 (v.toNat + 255))
           { t with
             regs := { t.regs with f := flagByte (decide (v = 0x01#8)) true (decide (v.toNat % 16 = 0x0)) (fC s) }
             stepCost := costOf o 4 12 })

/-- R228: `DAA`, with the correction the rule spells; both tests use the old `A`. -/
def Obligations.DecimalAdjust : Prop :=
  Means [0x27#8] .daa ∧ ∀ s, exec .daa s = .next
    (let a := s.regs.a.toNat
     let low := fH s = true ∨ (fN s = false ∧ a % 16 > 9)
     let high := fC s = true ∨ (fN s = false ∧ a > 0x99)
     let adj := (if low then 0x06 else 0) + (if high then 0x60 else 0)
     let r := if fN s then (a + 256 - adj) % 256 else (a + adj) % 256
     { s with
       regs := { s.regs with a := BitVec.ofNat 8 r, f := flagByte (decide (r = 0)) (fN s) false (decide high) }
       stepCost := 4 })

/-- R229 to R231: `CPL`, `SCF`, `CCF`. -/
def Obligations.AccumulatorFlagOps : Prop :=
  (Means [0x2F#8] .cpl ∧ ∀ s, exec .cpl s = .next { s with
      regs := { s.regs with a := ~~~s.regs.a, f := flagByte (fZ s) true true (fC s) }, stepCost := 4 })
    ∧ (Means [0x37#8] .scf ∧ ∀ s, exec .scf s = .next { s with
      regs := { s.regs with f := flagByte (fZ s) false false true }, stepCost := 4 })
    ∧ (Means [0x3F#8] .ccf ∧ ∀ s, exec .ccf s = .next { s with
      regs := { s.regs with f := flagByte (fZ s) false false (!fC s) }, stepCost := 4 })

/-! ## 16-bit arithmetic -/

/-- R251 to R253: `ADD HL,rr` (`H` the carry out of bit 11, `C` out of bit 15, `fZ` kept), `INC rr`, `DEC rr` (no flag). -/
def Obligations.PairArithmetic : Prop :=
  (∀ p : Pair, Means [opByte 0 (2 * pairCode p + 1) 1] (.addHl p)
      ∧ ∀ s, exec (.addHl p) s = .next
          (let x := (hl s).toNat
           let v := (pair s.regs p).toNat
           { s with
             regs := { withPair s.regs .hl (BitVec.ofNat 16 (x + v)) with
               f := flagByte (fZ s) false (decide (x % 4096 + v % 4096 > 0xFFF)) (decide (x + v > 0xFFFF)) }
             stepCost := 8 }))
    ∧ (∀ p : Pair, Means [opByte 0 (2 * pairCode p) 3] (.incPair p)
      ∧ ∀ s, exec (.incPair p) s = .next { s with regs := withPair s.regs p (pair s.regs p + 1#16), stepCost := 8 })
    ∧ ∀ p : Pair, Means [opByte 0 (2 * pairCode p + 1) 3] (.decPair p)
      ∧ ∀ s, exec (.decPair p) s = .next { s with regs := withPair s.regs p (pair s.regs p - 1#16), stepCost := 8 }

/-- R204, R254: `LD HL,SP+r8` and `ADD SP,r8`: the displacement is signed, both carries are those of the unsigned low-byte sum. -/
def Obligations.StackPointerOffset : Prop :=
  let flags (sp : Word) (e : Byte) : Byte :=
    flagByte false false (decide (sp.toNat % 16 + e.toNat % 16 > 0xF)) (decide (sp.toNat % 256 + e.toNat > 0xFF))
  (∀ e : Byte, Means [0xF8#8, e] (.ldHL_SPr8 e)
      ∧ ∀ s, exec (.ldHL_SPr8 e) s = .next { s with
          regs := { withPair s.regs .hl (s.regs.sp + signed e) with f := flags s.regs.sp e }, stepCost := 12 })
    ∧ ∀ e : Byte, Means [0xE8#8, e] (.addSP_r8 e)
      ∧ ∀ s, exec (.addSP_r8 e) s = .next { s with
          regs := { s.regs with sp := s.regs.sp + signed e, f := flags s.regs.sp e }, stepCost := 16 }

/-! ## Rotates, shifts and bits -/

/-- R261 to R264: `RLCA`, `RRCA`, `RLA`, `RRA`: `C` is the bit shifted out, the other flags are cleared. -/
def Obligations.RotateAccumulator : Prop :=
  let after (op : RotOp) (s : State) : State :=
    let r := rotated op s.regs.a.toNat (fC s).toNat
    { s with
      regs := { s.regs with a := BitVec.ofNat 8 r.1, f := flagByte false false false (decide (r.2 = 1)) }
      stepCost := 4 }
  (Means [0x07#8] .rlca ∧ ∀ s, exec .rlca s = .next (after .rlc s))
    ∧ (Means [0x0F#8] .rrca ∧ ∀ s, exec .rrca s = .next (after .rrc s))
    ∧ (Means [0x17#8] .rla ∧ ∀ s, exec .rla s = .next (after .rl s))
    ∧ (Means [0x1F#8] .rra ∧ ∀ s, exec .rra s = .next (after .rr s))

/-- R266 to R273: the rotates, shifts and `SWAP` of the secondary page, on a register or on the byte at `HL`: `Z` from the result,
`C` the bit shifted out (0 for `SWAP`). -/
def Obligations.RotateOperand : Prop :=
  ∀ (op : RotOp) (o : Operand8), Means [0xCB#8, opByte 0 (rotCode op) (operandCode o)] (.rotate op o)
    ∧ ∀ s, exec (.rotate op o) s = .next
        (let r := rotated op (value s o).toNat (fC s).toNat
         let t := putOperand s o (BitVec.ofNat 8 r.1)
         { t with
           regs := { t.regs with f := flagByte (decide (r.1 = 0)) false false (decide (r.2 = 1)) }
           stepCost := costOf o 8 16 })

/-- R274 to R276: `BIT b,x` (the operand is read, not written; `Z` is the complement of the bit, `fC` is kept), `RES b,x`, `SET b,x`
(the write happens whatever the bit was; no flag). -/
def Obligations.BitInstructions : Prop :=
  (∀ (b : Fin 8) (o : Operand8), Means [0xCB#8, opByte 1 b.val (operandCode o)] (.bit b o)
      ∧ ∀ s, exec (.bit b o) s = .next { s with
          regs := { s.regs with f := flagByte (decide (bit (value s o) b.val = 0)) false true (fC s) }
          bus := busAfter s o
          stepCost := costOf o 8 12 })
    ∧ (∀ (b : Fin 8) (o : Operand8), Means [0xCB#8, opByte 2 b.val (operandCode o)] (.res b o)
      ∧ ∀ s, exec (.res b o) s = .next
          { putOperand s o (BitVec.ofNat 8 ((value s o).toNat - bit (value s o) b.val * 2 ^ b.val)) with
            stepCost := costOf o 8 16 })
    ∧ ∀ (b : Fin 8) (o : Operand8), Means [0xCB#8, opByte 3 b.val (operandCode o)] (.set b o)
      ∧ ∀ s, exec (.set b o) s = .next
          { putOperand s o (BitVec.ofNat 8 ((value s o).toNat + (1 - bit (value s o) b.val) * 2 ^ b.val)) with
            stepCost := costOf o 8 16 }

/-! ## Control flow -/

/-- R291 to R293: `JP a16`, `JP cc,a16`, `JP (HL)`. -/
def Obligations.JumpAbsolute : Prop :=
  (∀ nn : Word, Means [0xC3#8, low nn, high nn] (.jp nn)
      ∧ ∀ s, exec (.jp nn) s = .next { s with regs := { s.regs with pc := nn }, stepCost := 16 })
    ∧ (∀ (cc : Cond) (nn : Word), Means [opByte 3 (condCode cc) 2, low nn, high nn] (.jumpCond cc nn)
      ∧ ∀ s, exec (.jumpCond cc nn) s = .next
          (if holds s cc then { s with regs := { s.regs with pc := nn }, stepCost := 16 } else { s with stepCost := 12 }))
    ∧ (Means [0xE9#8] .jpHL
      ∧ ∀ s, exec .jpHL s = .next { s with regs := { s.regs with pc := hl s }, stepCost := 4 })

/-- R294, R295: `JR r8` and `JR cc,r8`, relative to the address after the displacement byte. -/
def Obligations.JumpRelative : Prop :=
  (∀ e : Byte, Means [0x18#8, e] (.jr e)
      ∧ ∀ s, exec (.jr e) s = .next { s with regs := { s.regs with pc := s.regs.pc + signed e }, stepCost := 12 })
    ∧ ∀ (cc : Cond) (e : Byte), Means [opByte 0 (4 + condCode cc) 0, e] (.jumpRelCond cc e)
      ∧ ∀ s, exec (.jumpRelCond cc e) s = .next
          (if holds s cc then { s with regs := { s.regs with pc := s.regs.pc + signed e }, stepCost := 12 }
           else { s with stepCost := 8 })

/-- R296, R297, R302: `CALL a16`, `CALL cc,a16` and `RST t` push the address after the instruction and jump; a call not taken
pushes nothing. -/
def Obligations.CallAndRestart : Prop :=
  let called (s : State) (target : Word) (n : Nat) : State :=
    { s with
      regs := { s.regs with sp := s.regs.sp - 2#16, pc := target }, bus := pushed s s.regs.pc, stepCost := n }
  (∀ nn : Word, Means [0xCD#8, low nn, high nn] (.call nn) ∧ ∀ s, exec (.call nn) s = .next (called s nn 24))
    ∧ (∀ (cc : Cond) (nn : Word), Means [opByte 3 (condCode cc) 4, low nn, high nn] (.callCond cc nn)
      ∧ ∀ s, exec (.callCond cc nn) s = .next (if holds s cc then called s nn 24 else { s with stepCost := 12 }))
    ∧ ∀ t : Fin 8, Means [opByte 3 t.val 7] (.rst t)
      ∧ ∀ s, exec (.rst t) s = .next (called s (BitVec.ofNat 16 (8 * t.val)) 16)

/-- R298 to R300: `RET`, `RET cc` and `RETI` pop `PC`; a return not taken reads nothing; `RETI` also sets `ime` at once. -/
def Obligations.Returns : Prop :=
  let returned (s : State) (n : Nat) : State :=
    { s with regs := { s.regs with sp := s.regs.sp + 2#16, pc := popped s }, bus := busAfterPop s, stepCost := n }
  (Means [0xC9#8] .ret ∧ ∀ s, exec .ret s = .next (returned s 16))
    ∧ (∀ cc : Cond, Means [opByte 3 (condCode cc) 0] (.retCond cc)
      ∧ ∀ s, exec (.retCond cc) s = .next (if holds s cc then returned s 20 else { s with stepCost := 8 }))
    ∧ (Means [0xD9#8] .reti ∧ ∀ s, exec .reti s = .next { returned s 16 with ime := true })

/-! ## System instructions -/

/-- R310, R312 to R314: `NOP` and `STOP` (with its ignored byte) change nothing; `DI` clears `ime` and `ime_scheduled`; `EI` sets
`ime_scheduled` only, and the next step that is not halted first commits it. -/
def Obligations.SystemInstructions : Prop :=
  (Means [0x00#8] .nop ∧ ∀ s, exec .nop s = .next { s with stepCost := 4 })
    ∧ (∀ n : Byte, Means [0x10#8, n] (.stop n) ∧ ∀ s, exec (.stop n) s = .next { s with stepCost := 4 })
    ∧ (Means [0xF3#8] .di ∧ ∀ s, exec .di s = .next { s with ime := false, imeScheduled := false, stepCost := 4 })
    ∧ (Means [0xFB#8] .ei ∧ ∀ s, exec .ei s = .next { s with imeScheduled := true, stepCost := 4 })
    ∧ ∀ s : State, s.locked = false → s.halted = false → s.imeScheduled = true →
        step s = step { s with ime := true, imeScheduled := false }

/-- `HALT` sets `halted` (R311); R332: a halted step fetches nothing, commits nothing and dispatches nothing, costs 4, and clears
`halted` exactly if an enabled request is pending, whatever `ime` is. -/
def Obligations.HaltAndWake : Prop :=
  (Means [0x76#8] .halt ∧ ∀ s, exec .halt s = .next { s with halted := true, stepCost := 4 })
    ∧ ∀ s : State, s.locked = false → s.halted = true →
        cpuStep s = .next { s with halted := decide (requests s = 0#8), stepCost := 4 }

/-- R315 (and R151): the row of the prefix does what the instruction of the secondary page does that its second byte selects by
the fields `x y z`; it always answers a next state. -/
def Obligations.PrefixSelects : Prop :=
  (∀ (op : RotOp) (o : Operand8) (s : State),
      exec (.prefixCB (opByte 0 (rotCode op) (operandCode o))) s = exec (.rotate op o) s)
    ∧ (∀ (b : Fin 8) (o : Operand8) (s : State), exec (.prefixCB (opByte 1 b.val (operandCode o))) s = exec (.bit b o) s)
    ∧ (∀ (b : Fin 8) (o : Operand8) (s : State), exec (.prefixCB (opByte 2 b.val (operandCode o))) s = exec (.res b o) s)
    ∧ (∀ (b : Fin 8) (o : Operand8) (s : State), exec (.prefixCB (opByte 3 b.val (operandCode o))) s = exec (.set b o) s)
    ∧ (∀ (op2 : Byte) (rest : List Byte), ∃ i, decode (0xCB#8 :: op2 :: rest) = .ok (i, rest)
        ∧ ∀ s, exec (.prefixCB op2) s = exec i s)
    ∧ ∀ (op2 : Byte) (s : State), ∃ t, exec (.prefixCB op2) s = .next t

/-! ## Registers and memory -/

/-- R23, R24: reading a pair is the concatenation of its registers; writing `BC`, `DE`, `HL` sets both registers and reads back
exactly; writing `AF` clears the low nibble of `F`. -/
def Obligations.PairViews : Prop :=
  ∀ (r : Regs) (v : Word),
    r.af = r.a ++ r.f ∧ r.bc = r.b ++ r.c ∧ r.de = r.d ++ r.e ∧ r.hl = r.h ++ r.l
      ∧ r.setBc v = { r with b := high v, c := low v } ∧ r.setDe v = { r with d := high v, e := low v }
      ∧ r.setHl v = { r with h := high v, l := low v } ∧ r.setAf v = { r with a := high v, f := low v &&& 0xF0#8 }
      ∧ (r.setBc v).bc = v ∧ (r.setDe v).de = v ∧ (r.setHl v).hl = v ∧ (r.setAf v).af = v &&& 0xFFF0#16

/-- The arrays of 10_state.md R39: a write changes the byte at its index and no other, and keeps the canonical form, in which
arrays that read alike are equal. -/
def Obligations.ArrayReadAfterWrite : Prop :=
  (∀ (m : Memory) (a b : Nat) (v : Byte), (m.write a v).read b = if b = a then v else m.read b)
    ∧ (∀ (m : Memory) (a : Nat) (v : Byte), m.wf = true → (m.write a v).wf = true)
    ∧ ∀ m m' : Memory, m.wf = true → m'.wf = true → (∀ a, m.read a = m'.read a) → m = m'

/-- R85 to R87: the two ROM windows. A read beyond `ROM_LEN` is 0xFF; the switchable bank is taken modulo the number of banks. -/
def Obligations.ReadRom : Prop :=
  ∀ (b : Bus) (a : Nat),
    let romByte (i : Nat) : Byte := if i < b.romLen then b.rom.read i else 0xFF#8
    let banks := max 1 ((b.romLen + 0x3FFF) / 0x4000)
    let bank := (if b.cartKind = .mbc1 then b.romBank.toNat else 1) % banks
    (a < 0x4000 → b.peek (BitVec.ofNat 16 a) = romByte a)
      ∧ (0x4000 ≤ a → a < 0x8000 → b.peek (BitVec.ofNat 16 a) = romByte (bank * 0x4000 + (a - 0x4000)))

/-- R88 to R92, R94, R96, with the banks of R93, R97, R109: the RAM windows, the echo, the gap, high RAM and `IE`. -/
def Obligations.ReadRam : Prop :=
  ∀ (b : Bus) (a : Nat),
    let vb := if b.color then b.vramBank.toNat else 0
    let wb := if b.color then b.wramBank.toNat else 1
    let size := b.eramSize.bytes
    (0x8000 ≤ a → a < 0xA000 → b.peek (BitVec.ofNat 16 a) = b.vram.read (vb * 0x2000 + (a - 0x8000)))
      ∧ (0xA000 ≤ a → a < 0xC000 → b.peek (BitVec.ofNat 16 a) =
          if b.ramEnable = false ∨ size = 0 then 0xFF#8
          else b.eram.read ((b.ramBank.toNat % max 1 (size / 0x2000) * 0x2000 + (a - 0xA000)) % size))
      ∧ (0xC000 ≤ a → a < 0xD000 → b.peek (BitVec.ofNat 16 a) = b.wram.read (a - 0xC000))
      ∧ (0xD000 ≤ a → a < 0xE000 → b.peek (BitVec.ofNat 16 a) = b.wram.read (wb * 0x1000 + (a - 0xD000)))
      ∧ (0xE000 ≤ a → a < 0xFE00 → b.peek (BitVec.ofNat 16 a) = b.peek (BitVec.ofNat 16 (a - 0x2000)))
      ∧ (0xFE00 ≤ a → a < 0xFEA0 → b.peek (BitVec.ofNat 16 a) = b.oam.read (a - 0xFE00))
      ∧ (0xFEA0 ≤ a → a < 0xFF00 → b.peek (BitVec.ofNat 16 a) = 0xFF#8)
      ∧ (0xFF80 ≤ a → a < 0xFFFF → b.peek (BitVec.ofNat 16 a) = b.hram.read (a - 0xFF80))
      ∧ b.peek 0xFFFF#16 = b.ie

/-- R95, R122, R372, R427: reads of the I/O block, and the one read with a side effect. One value of the clause on 0xFF55 is the
model's choice, not the spec's: an armed copy with no block left, where R427's `hdma_len - 1` is below 0, reads 0x7F (DESIGN
CHOICE, log 21); no good state is such a state (`Bus.hdmaWf`). -/
def Obligations.ReadIo : Prop :=
  ∀ b : Bus,
    let sel := b.ioAt 0x00 &&& 0x30#8
    let dirs := if sel.getLsbD 4 then 0xF else b.buttons.toNat % 16
    let acts := if sel.getLsbD 5 then 0xF else b.buttons.toNat / 16
    let joyLow := BitVec.ofNat 8 dirs &&& BitVec.ofNat 8 acts
    b.peek 0xFF00#16 = 0xC0#8 ||| sel ||| joyLow
      ∧ (∀ addr : Word, b.afterRead addr =
          if addr = 0xFF00#16 ∧ joyLow ≠ 0x0F#8 then b.setIo 0x0F (b.ioAt 0x0F ||| 0x10#8) else b)
      ∧ (b.color = true → b.peek 0xFF55#16 =
          if b.hdmaActive then (BitVec.ofNat 8 b.hdmaLen - 1#8) &&& 0x7F#8
          else if b.hdmaLen = 0 then 0xFF#8 else 0x80#8 ||| ((BitVec.ofNat 8 b.hdmaLen - 1#8) &&& 0x7F#8))
      ∧ (b.color = true → b.peek 0xFF69#16 = b.bgPal.read ((b.ioAt 0x68).toNat % 64))
      ∧ (b.color = true → b.peek 0xFF6B#16 = b.objPal.read ((b.ioAt 0x6A).toNat % 64))
      ∧ ∀ o, o < 0x80 → o ≠ 0x00 → (b.color = false ∨ (o ≠ 0x55 ∧ o ≠ 0x69 ∧ o ≠ 0x6B)) →
          b.peek (BitVec.ofNat 16 (0xFF00 + o)) = b.ioAt o

/-- R110 to R115, R117: writes to the RAM windows, the echo, the gap, high RAM and `IE`; nothing else of the bus changes. -/
def Obligations.WriteRam : Prop :=
  ∀ (b : Bus) (a : Nat) (v : Byte),
    let vb := if b.color then b.vramBank.toNat else 0
    let wb := if b.color then b.wramBank.toNat else 1
    let size := b.eramSize.bytes
    let after := b.write (BitVec.ofNat 16 a) v
    (0x8000 ≤ a → a < 0xA000 → after = { b with vram := b.vram.write (vb * 0x2000 + (a - 0x8000)) v })
      ∧ (0xA000 ≤ a → a < 0xC000 → after =
          if b.ramEnable = true ∧ 0 < size then
            { b with eram := b.eram.write ((b.ramBank.toNat % max 1 (size / 0x2000) * 0x2000 + (a - 0xA000)) % size) v }
          else b)
      ∧ (0xC000 ≤ a → a < 0xD000 → after = { b with wram := b.wram.write (a - 0xC000) v })
      ∧ (0xD000 ≤ a → a < 0xE000 → after = { b with wram := b.wram.write (wb * 0x1000 + (a - 0xD000)) v })
      ∧ (0xE000 ≤ a → a < 0xFE00 → after = b.write (BitVec.ofNat 16 (a - 0x2000)) v)
      ∧ (0xFE00 ≤ a → a < 0xFEA0 → after = { b with oam := b.oam.write (a - 0xFE00) v })
      ∧ (0xFEA0 ≤ a → a < 0xFF00 → after = b)
      ∧ (0xFF80 ≤ a → a < 0xFFFF → after = { b with hram := b.hram.write (a - 0xFF80) v })
      ∧ (a = 0xFFFF → after = { b with ie := v })

/-- R101 to R105: writes to 0x0000-0x7FFF never change `ROM`: dropped without a controller, else the bank registers by window. -/
def Obligations.CartridgeWrites : Prop :=
  ∀ (b : Bus) (a : Nat) (v : Byte), a < 0x8000 →
    let after := b.write (BitVec.ofNat 16 a) v
    (b.cartKind = .romOnly → after = b)
      ∧ (b.cartKind = .mbc1 → a < 0x2000 → after = { b with ramEnable := decide (v.toNat % 16 = 0xA) })
      ∧ (b.cartKind = .mbc1 → 0x2000 ≤ a → a < 0x4000 → after =
          { b with romBank := BitVec.ofNat 7 (b.romBank.toNat / 32 * 32 + (if v.toNat % 32 = 0 then 1 else v.toNat % 32)) })
      ∧ (b.cartKind = .mbc1 → 0x4000 ≤ a → a < 0x6000 → b.bankMode = .simple → after =
          { b with romBank := BitVec.ofNat 7 (v.toNat % 4 * 32 + b.romBank.toNat % 32) })
      ∧ (b.cartKind = .mbc1 → 0x4000 ≤ a → a < 0x6000 → b.bankMode = .advanced → after =
          { b with ramBank := BitVec.ofNat 2 v.toNat })
      ∧ (b.cartKind = .mbc1 → 0x6000 ≤ a → after =
          { b with bankMode := if v.toNat % 2 = 1 then .advanced else .simple })

/-- R116 (with R61, R65, R67, R69): writes to the I/O block, offset by offset; the two DMA units' copies are the statements OamDma
and VramDma. -/
def Obligations.IoWrites : Prop :=
  ∀ (b : Bus) (o : Nat) (v : Byte), o < 0x80 →
    let after := b.write (BitVec.ofNat 16 (0xFF00 + o)) v
    let next (ps : Byte) : Byte := if ps.getLsbD 7 then (ps &&& 0xC0#8) ||| BitVec.ofNat 8 ((ps.toNat % 64 + 1) % 64) else ps
    (o = 0x00 → after = b.setIo 0x00 (v &&& 0x30#8))
      ∧ (o = 0x04 → after = { b.setIo 0x04 0x00#8 with divAcc := 0 })
      ∧ (o = 0x41 → after = b.setIo 0x41 ((v &&& 0xF8#8) ||| (b.ioAt 0x41 &&& 0x07#8)))
      ∧ (o = 0x44 → after = b)
      ∧ (o = 0x46 → after = (b.setIo 0x46 v).oamDma v)
      ∧ (b.color = true → o = 0x4F → after = { b.setIo 0x4F v with vramBank := BitVec.ofNat 1 v.toNat })
      ∧ (b.color = true → o = 0x51 → after = { b.setIo 0x51 v with hdmaSrc := v ++ low b.hdmaSrc })
      ∧ (b.color = true → o = 0x52 → after = { b.setIo 0x52 v with hdmaSrc := high b.hdmaSrc ++ (v &&& 0xF0#8) })
      ∧ (b.color = true → o = 0x53 → after =
          { b.setIo 0x53 v with hdmaDst := (0x80#8 ||| (v &&& 0x1F#8)) ++ low b.hdmaDst })
      ∧ (b.color = true → o = 0x54 → after = { b.setIo 0x54 v with hdmaDst := high b.hdmaDst ++ (v &&& 0xF0#8) })
      ∧ (b.color = true → o = 0x55 → after = b.writeHdma5 v)
      ∧ (b.color = true → o = 0x69 → after =
          { b.setIo 0x68 (next (b.ioAt 0x68)) with bgPal := b.bgPal.write ((b.ioAt 0x68).toNat % 64) v })
      ∧ (b.color = true → o = 0x6B → after =
          { b.setIo 0x6A (next (b.ioAt 0x6A)) with objPal := b.objPal.write ((b.ioAt 0x6A).toNat % 64) v })
      ∧ (b.color = true → o = 0x70 → after =
          { b.setIo 0x70 v with wramBank := if v.toNat % 8 = 0 then 1#3 else BitVec.ofNat 3 v.toNat })
      ∧ (o ∉ [0x00, 0x04, 0x41, 0x44, 0x46] →
          (b.color = false ∨ o ∉ [0x4F, 0x51, 0x52, 0x53, 0x54, 0x55, 0x69, 0x6B, 0x70]) → after = b.setIo o v)

/-- A store to RAM, to `IE`, or to nothing is seen by every later read of that cell under every address that names it (the echo of
R91 among them), and by no read of another cell. -/
def Obligations.StoredByteReadsBack : Prop :=
  ∀ (b : Bus) (addr c : Word) (v : Byte), plain (b.cell addr) →
    (b.write addr v).peek c = if b.cell c = b.cell addr ∧ b.cell addr ≠ .nothing then v else b.peek c

/-- THE FRAME ON MEMORY, for every instruction of both pages: where the addresses it stores to (computed from its bytes and the
state) are RAM, `IE` or nothing, every byte outside the cells stored to reads as before; `IF` (0xFF0F) reads as before except that
an instruction that reads 0xFF00 with a selected button pressed sets bit 4 of it. Stores to the bank windows and to the I/O block
are the statements CartridgeWrites and IoWrites. -/
def Obligations.MemoryFrame : Prop :=
  ∀ (op b1 b2 : Byte) (s t : State), exec (decodeOp op b1 b2) s = .next t →
    (∀ a ∈ targets op b1 b2 s, plain (s.bus.cell a)) →
      (∀ c : Word, c ≠ 0xFF0F#16 → (∀ a ∈ targets op b1 b2 s, s.bus.cell c ≠ s.bus.cell a ∨ s.bus.cell a = .nothing) →
          t.bus.peek c = s.bus.peek c)
        ∧ t.bus.peek 0xFF0F#16 =
          if 0xFF00#16 ∈ sources op b1 b2 s ∧ (s.bus.peek 0xFF00#16).toNat % 16 ≠ 15 then s.bus.peek 0xFF0F#16 ||| 0x10#8
          else s.bus.peek 0xFF0F#16

/-- R420: a write to 0xFF46 stores the cell and copies the 160 bytes of the page, each read through the bus decode, the joypad
request of a read of 0xFF00 included; nothing else of the bus changes. -/
def Obligations.OamDma : Prop :=
  ∀ (b : Bus) (v : Byte),
    let stored := (b.setIo 0x46 v).afterRead (v ++ 0x00#8)
    let after := b.write 0xFF46#16 v
    after = { stored with oam := after.oam }
      ∧ (∀ i, i < 160 → after.oam.read i = stored.peek ((v ++ 0x00#8) + BitVec.ofNat 16 i))
      ∧ ∀ i, 160 ≤ i → after.oam.read i = b.oam.read i

/-- R424, R425: the write to `HDMA5` cancels, copies at once or arms; `HdmaCopy(k)` is the loop of the rule, byte by byte. -/
def Obligations.VramDma : Prop :=
  (∀ (b : Bus) (k : Nat), b.hdmaCopy k =
      { (List.range k).foldl (copyByte b.hdmaSrc b.hdmaDst) b with
        hdmaSrc := b.hdmaSrc + BitVec.ofNat 16 k, hdmaDst := b.hdmaDst + BitVec.ofNat 16 k })
    ∧ ∀ (b : Bus) (v : Byte), b.color = true →
        let stored := b.setIo 0x55 v
        let n := v.toNat % 128 + 1
        (b.hdmaActive = true → v.toNat < 128 → b.write 0xFF55#16 v = { stored with hdmaActive := false })
          ∧ (b.hdmaActive = false → v.toNat < 128 →
              b.write 0xFF55#16 v = { stored.hdmaCopy (16 * n) with hdmaLen := 0, hdmaActive := false })
          ∧ (128 ≤ v.toNat → b.write 0xFF55#16 v = { stored with hdmaLen := n, hdmaActive := true })

/-! ## Devices -/

/-- R362, R363: the divider and the counter, as the rules' `while` loops; `TimerStep` is the divider, then the counter. The I/O
block is taken in canonical form, which every step keeps. -/
def Obligations.TimerLoops : Prop :=
  ∀ (b : Bus) (c : Nat), b.io.wf = true →
    b.timerStep c = (b.dividerStep c).counterStep c
      ∧ (let r := whileLoop 256 (fun d => d.setIo 0x04 (d.ioAt 0x04 + 1#8)) (b.divAcc + c) (b.divAcc + c) b
         b.dividerStep c = { r.2 with divAcc := r.1 } ∧ r.1 < 256)
      ∧ (let period := [1024, 16, 64, 256].getD ((b.ioAt 0x07).toNat % 4) 0
         let tick (d : Bus) : Bus :=
           if d.ioAt 0x05 = 0xFF#8 then
             let d' := d.setIo 0x05 (d.ioAt 0x06)
             d'.setIo 0x0F (d'.ioAt 0x0F ||| 0x04#8)
           else d.setIo 0x05 (d.ioAt 0x05 + 1#8)
         let r := whileLoop period tick (b.timaAcc + c) (b.timaAcc + c) b
         b.counterStep c = (if (b.ioAt 0x07).getLsbD 2 then { r.2 with timaAcc := r.1 } else b) ∧ r.1 < period)

/-- R381 to R384: a scanline boundary: `dot`, `LY`, the compare flag, the mode, the requests it raises, `frame_ready`; no other
cell of the I/O block and nothing else of the bus changes. Short of 456 cycles nothing happens. -/
def Obligations.ScanlineBoundary : Prop :=
  ∀ b : Bus,
    (b.dot < 456 → b.boundary = (b, false))
      ∧ (456 ≤ b.dot →
          let t := b.boundary.1
          let ly := ((b.ioAt 0x44).toNat + 1) % 154
          let eq := ly = (b.ioAt 0x45).toNat
          let stat := b.ioAt 0x41
          { t with io := b.io, dot := b.dot } = b
            ∧ t.dot = b.dot - 456
            ∧ t.ioAt 0x44 = BitVec.ofNat 8 ly
            ∧ (t.ioAt 0x41).getLsbD 2 = decide eq
            ∧ (t.ioAt 0x41).toNat / 8 = stat.toNat / 8
            ∧ (t.ioAt 0x41).toNat % 4 = (if ly = 144 then 1 else if ly < 144 then 2 else stat.toNat % 4)
            ∧ t.ioAt 0x0F = b.ioAt 0x0F ||| (if ly = 144 then 0x01#8 else 0x00#8)
                ||| (if (eq ∧ stat.getLsbD 6 = true) ∨ (ly = 144 ∧ stat.getLsbD 4 = true) ∨ (ly < 144 ∧ stat.getLsbD 5 = true)
                    then 0x02#8 else 0x00#8)
            ∧ (∀ o, o ≠ 0x0F → o ≠ 0x41 → o ≠ 0x44 → t.ioAt o = b.ioAt o)
            ∧ b.boundary.2 = decide (ly = 144))

/-- R380, R385, R386, R426: with `LCDC[7]` clear a pixel-pipeline step is a no-op; set, it adds the cycles, then the boundary test,
then the change to drawing with one rendered line, then the change to H-blank with its request and its VRAM-DMA chunk. -/
def Obligations.PixelPipelineStep : Prop :=
  ∀ (p : Params) (b : Bus) (c : Nat),
    (lcdc b 7 = false → Bus.ppuStep p b c = (b, false))
      ∧ (lcdc b 7 = true →
          let r := ({ b with dot := b.dot + c } : Bus).boundary
          let b1 := r.1
          let b2 :=
            if (b1.ioAt 0x44).toNat < 144 ∧ (b1.ioAt 0x41).toNat % 4 = 2 ∧ 80 ≤ b1.dot then
              Bus.renderScanline p (b1.setIo 0x41 (BitVec.ofNat 8 ((b1.ioAt 0x41).toNat / 4 * 4 + 3))) (b1.ioAt 0x44).toNat
            else b1
          let b3 := b2.setIo 0x41 (BitVec.ofNat 8 ((b2.ioAt 0x41).toNat / 4 * 4))
          let b4 := if (b2.ioAt 0x41).getLsbD 3 then b3.setIo 0x0F (b3.ioAt 0x0F ||| 0x02#8) else b3
          let b5 :=
            if b4.color = true ∧ b4.hdmaActive = true then
              { b4.hdmaCopy 16 with hdmaLen := b4.hdmaLen - 1, hdmaActive := decide (b4.hdmaLen - 1 ≠ 0) }
            else b4
          Bus.ppuStep p b c =
            (if (b2.ioAt 0x44).toNat < 144 ∧ (b2.ioAt 0x41).toNat % 4 = 3 ∧ 252 ≤ b2.dot then b5 else b2, r.2))

/-- R400, R401, R408: with `LAYERS_ENABLED` off every column of a rendered line shows the background; the other lines of the
framebuffer and the rest of the bus stay as they were. -/
def Obligations.BackgroundPixels : Prop :=
  ∀ (p : Params) (b : Bus) (ly x : Nat), p.layersEnabled = false → ly < 144 → x < 160 →
    Shows p b ly x (background b ly x)
      ∧ { Bus.renderScanline p b ly with fb := b.fb } = b
      ∧ ∀ i, i / 640 ≠ ly → (Bus.renderScanline p b ly).fbByte i = b.fbByte i

/-- R402 to R405: with `LAYERS_ENABLED` on, the window replaces the background where it covers; of the entries kept on the line, the
visible one with the lowest `(X, i)` shows, and where none is visible the shade under the sprites does. -/
def Obligations.WindowAndSpritePixels : Prop :=
  ∀ (p : Params) (b : Bus) (ly x : Nat), p.layersEnabled = true → ly < 144 → x < 160 →
    (lcdc b 1 = false → Shows p b ly x (underSprites b ly x))
      ∧ (lcdc b 1 = true → (∀ i ∈ kept b ly, ¬visible b ly x i) → Shows p b ly x (underSprites b ly x))
      ∧ (lcdc b 1 = true → ∀ i ∈ kept b ly, visible b ly x i →
          (∀ j ∈ kept b ly, visible b ly x j → spriteX b i < spriteX b j ∨ (spriteX b i = spriteX b j ∧ i ≤ j)) →
            Shows p b ly x (spriteShade b ly x i))

/-! ## Reset, host, invariants -/

/-- R451: the reset state, for every value of the parameters and of `RAM_INIT` (`FB` included), and the default parameters'
values in `State.reset` (R31, R70), which is stopped (R450). The last clause is the model's choice, not the spec's: `State.reset`
takes zero for the open `RAM_INIT` (DESIGN CHOICE, log 1). -/
def Obligations.ResetState : Prop :=
  (∀ (ram : RamInit) (s : State),
      let t := hostReset ram s
      t.regs = s.params.resetRegs ∧ t.ime = false ∧ t.imeScheduled = false ∧ t.halted = false ∧ t.locked = false
        ∧ t.cycles = 0#32 ∧ t.running = s.running ∧ t.params = s.params
        ∧ t.bus.romBank = 1#7 ∧ t.bus.ramBank = 0#2 ∧ t.bus.ramEnable = false ∧ t.bus.bankMode = .simple
        ∧ t.bus.vramBank = 0#1 ∧ t.bus.wramBank = 1#3
        ∧ t.bus.io = s.params.resetIo ∧ t.bus.ie = s.params.resetIe
        ∧ t.bus.dot = 0 ∧ t.bus.divAcc = 0 ∧ t.bus.timaAcc = 0 ∧ t.bus.buttons = 0xFF#8
        ∧ t.bus.hdmaSrc = 0x0000#16 ∧ t.bus.hdmaDst = 0x8000#16 ∧ t.bus.hdmaLen = 0 ∧ t.bus.hdmaActive = false
        ∧ t.bus.vram = ram.vram ∧ t.bus.wram = ram.wram ∧ t.bus.eram = ram.eram ∧ t.bus.oam = ram.oam
        ∧ t.bus.hram = ram.hram ∧ t.bus.bgPal = ram.bgPal ∧ t.bus.objPal = ram.objPal
        ∧ t.bus.fb = ram.fb
        ∧ t.bus.rom = s.bus.rom ∧ t.bus.romLen = s.bus.romLen ∧ t.bus.cartKind = s.bus.cartKind
        ∧ t.bus.color = s.bus.color ∧ t.bus.eramSize = s.bus.eramSize)
    ∧ State.reset.regs =
        { a := 0x01#8, f := 0xB0#8, b := 0x00#8, c := 0x13#8, d := 0x00#8, e := 0xD8#8, h := 0x01#8, l := 0x4D#8
          sp := 0xFFFE#16, pc := 0x0100#16 }
    ∧ (∀ o, State.reset.bus.ioAt o =
        if o = 0x40 then 0x91#8 else if o = 0x41 then 0x06#8 else if o = 0x47 then 0xFC#8
        else if o = 0x48 ∨ o = 0x49 then 0xFF#8 else 0x00#8)
    ∧ State.reset.bus.ie = 0x00#8
    ∧ State.reset.running = false
    ∧ hostReset RamInit.zero State.reset = State.reset

/-- R106 to R108: what a load reads from the cartridge header; an unknown cartridge type refuses the load. -/
def Obligations.LoadReadsHeader : Prop :=
  ∀ (rom : List Byte) (ram : RamInit) (s : State),
    (∀ h : 0x0147 < rom.length, 0x03 < (rom[0x0147]).toNat → load rom ram s = .refused (.unknownCartridge rom[0x0147]))
      ∧ ((∀ h : 0x0147 < rom.length, (rom[0x0147]).toNat ≤ 0x03) →
          ∃ t, load rom ram s = .next t
            ∧ t.bus.romLen = rom.length ∧ (∀ i, ∀ h : i < rom.length, t.bus.romByte i = rom[i])
            ∧ (rom.length ≤ 0x0147 → t.bus.cartKind = .romOnly)
            ∧ (∀ h : 0x0147 < rom.length, t.bus.cartKind = if (rom[0x0147]).toNat = 0 then .romOnly else .mbc1)
            ∧ (rom.length ≤ 0x0149 → t.bus.eramSize = s.params.eramDefaultSize)
            ∧ (∀ h : 0x0149 < rom.length,
                t.bus.eramSize.bytes = [0, 0x800, 0x2000, 0x8000, 0x20000].getD (rom[0x0149]).toNat 0)
            ∧ (rom.length ≤ 0x0143 → t.bus.color = false)
            ∧ ∀ h : 0x0143 < rom.length, t.bus.color = (rom[0x0143]).getLsbD 7)

/-- What no step changes: `ROM` and what is derived from its header, the buttons, the run gate, the parameters (R99, R370, R77). -/
def Obligations.HostOnlyState : Prop :=
  ∀ s t : State, step s = .next t →
    t.bus.rom = s.bus.rom ∧ t.bus.romLen = s.bus.romLen ∧ t.bus.cartKind = s.bus.cartKind ∧ t.bus.color = s.bus.color
      ∧ t.bus.eramSize = s.bus.eramSize ∧ t.bus.buttons = s.bus.buttons ∧ t.running = s.running ∧ t.params = s.params
      ∧ t.locked = s.locked

/-- R463: a stopped machine does nothing and answers false; a running one takes system steps while the sum of their costs is below
70224, and answers whether one of them was frame ready; a fault ends the call. R464, R331: the sum never exceeds 70244. That the call never runs out of the model's 17556 steps is the
model's reading of R331 (DEDUCED, log 15). -/
def Obligations.RunFrameBudget : Prop :=
  ∀ s : State,
    (s.running = false → runFrame s = .next (s, false))
      ∧ (s.running = true →
          (∀ (t : State) (vb : Bool), runFrame s = .next (t, vb) → ∃ ts, Chain s ts t
              ∧ 70224 ≤ spent ts ∧ spent ts ≤ 70244 ∧ spent ts.dropLast < 70224
              ∧ vb = ts.any (fun u => u.frameReady) ∧ t.cycles = s.cycles + BitVec.ofNat 32 (spent ts))
            ∧ (∀ f, runFrame s = .fault f → ∃ ts u, Chain s ts u ∧ spent ts < 70224 ∧ step u = .fault f)
            ∧ ∀ r, runFrame s ≠ .refused r)

/-- AN INVARIANT THAT EVERY STEP KEEPS: the low nibble of `F` is zero (R28), every array is canonical and in range (R131),
`rom_bank[4:0]` and `wram_bank` are not 0 (R43, R44), the pixel pipeline's mode, line and `dot` agree (R390), the timer's
accumulators are bounded (R71), at most 128 blocks are left to copy and an armed copy has one (R76), the joypad cell holds its two
select bits only (R48). -/
def Obligations.StepKeepsInvariant : Prop := ∀ s t : State, Machine.Inv s → step s = .next t → Machine.Inv t

/-- The state right after reset meets the invariant. -/
def Obligations.ResetMeetsInvariant : Prop := Machine.Inv State.reset
end

