-- ==== Sys2Proof/Laws/Memory.lean ====
section
/-! SUPPORT. The laws of the sparse byte arrays: read after write, and the canonical form kept by every operation. -/

namespace Sys2Proof.Machine.Memory

@[simp] theorem read_nil (a : Nat) : Memory.read [] a = Memory.blank := rfl

@[simp] theorem read_erase_same (m : Memory) (a : Nat) : (erase m a).read a = blank := by
  induction m with
  | nil => rfl
  | cons c t ih =>
    obtain ⟨k, v⟩ := c
    by_cases h : k = a <;> simp [erase, read, h, ih]

theorem read_erase_ne (m : Memory) {a b : Nat} (hab : b ≠ a) : (erase m a).read b = m.read b := by
  induction m with
  | nil => rfl
  | cons c t ih =>
    obtain ⟨k, v⟩ := c
    by_cases h : k = a
    · subst h; simp [erase, read, ih, Ne.symm hab]
    · by_cases hb : k = b <;> simp [erase, read, h, hb, ih, hab]

theorem read_eq_blank_of_above (m : Memory) {a b : Nat} (hm : above m b = true) (hab : a ≤ b) : m.read a = blank := by
  induction m with
  | nil => rfl
  | cons c t ih =>
    obtain ⟨k, v⟩ := c
    simp only [above, List.all_cons, Bool.and_eq_true, decide_eq_true_eq] at hm
    simp only [read, if_neg (show k ≠ a by omega)]
    exact ih (by simpa [above] using hm.2)

theorem read_insert_ne (m : Memory) {a b : Nat} (v : Byte) (hab : b ≠ a) : (insert m a v).read b = m.read b := by
  induction m with
  | nil => simp [insert, read, Ne.symm hab]
  | cons c t ih =>
    obtain ⟨k, w⟩ := c
    by_cases h : a < k <;> simp [insert, read, h, Ne.symm hab, ih]

/-- No cell of the array is at `a`. -/
def lacks (m : Memory) (a : Nat) : Bool := m.all fun cell => decide (cell.1 ≠ a)

theorem lacks_erase (m : Memory) (a : Nat) : lacks (erase m a) a = true := by
  induction m with
  | nil => rfl
  | cons c t ih =>
    obtain ⟨k, w⟩ := c
    by_cases h : k = a
    · simpa [erase, h] using ih
    · simp only [erase, if_neg h]; simpa [lacks, h] using ih

theorem read_insert_same (m : Memory) (a : Nat) (v : Byte) (hm : lacks m a = true) : (insert m a v).read a = v := by
  induction m with
  | nil => simp [insert, read]
  | cons c t ih =>
    obtain ⟨k, w⟩ := c
    simp only [lacks, List.all_cons, Bool.and_eq_true, decide_eq_true_eq] at hm
    by_cases h : a < k
    · simp [insert, h, read]
    · simp [insert, h, read, hm.1, ih (by simpa [lacks] using hm.2)]

/-- A read gives the byte last stored there. -/
@[simp] theorem read_write_same (m : Memory) (a : Nat) (v : Byte) : (write m a v).read a = v := by
  by_cases h : v = blank
  · simp [write, h]
  · simp only [write, if_neg h]
    exact read_insert_same _ _ _ (lacks_erase m a)

/-- A store leaves every other index alone. -/
theorem read_write_ne (m : Memory) {a b : Nat} (v : Byte) (hab : b ≠ a) : (write m a v).read b = m.read b := by
  by_cases h : v = blank
  · simp [write, h, read_erase_ne m hab]
  · simp [write, h, read_insert_ne _ v hab, read_erase_ne m hab]

theorem read_write (m : Memory) (a b : Nat) (v : Byte) : (write m a v).read b = if b = a then v else m.read b := by
  by_cases h : b = a
  · simp [h]
  · simp [h, read_write_ne m v h]

theorem above_mono (m : Memory) {a b : Nat} (hab : a ≤ b) (hm : above m b = true) : above m a = true := by
  simp only [above, List.all_eq_true, decide_eq_true_eq] at *
  exact fun c hc => Nat.lt_of_le_of_lt hab (hm c hc)

theorem all_erase (p : Host.Cell → Bool) (m : Memory) (a : Nat) (hm : m.all p = true) : (erase m a).all p = true := by
  induction m with
  | nil => rfl
  | cons c t ih =>
    obtain ⟨k, w⟩ := c
    simp only [List.all_cons, Bool.and_eq_true] at hm
    by_cases h : k = a <;> simp [erase, h, hm.1, ih hm.2]

theorem all_insert (p : Host.Cell → Bool) (m : Memory) (a : Nat) (v : Byte) (hm : m.all p = true) (hp : p (a, v) = true) :
    (insert m a v).all p = true := by
  induction m with
  | nil => simp [insert, hp]
  | cons c t ih =>
    obtain ⟨k, w⟩ := c
    simp only [List.all_cons, Bool.and_eq_true] at hm
    by_cases h : a < k <;> simp [insert, h, hp, hm.1, hm.2, ih hm.2]

theorem wf_erase (m : Memory) (a : Nat) (hm : wf m = true) : wf (erase m a) = true := by
  induction m with
  | nil => rfl
  | cons c t ih =>
    obtain ⟨k, w⟩ := c
    simp only [wf, Bool.and_eq_true, decide_eq_true_eq] at hm
    by_cases h : k = a
    · simpa [erase, h] using ih hm.2
    · simp [erase, h, wf, hm.1.1, ih hm.2]
      exact all_erase _ t a hm.1.2

theorem wf_insert (m : Memory) (a : Nat) (v : Byte) (hv : v ≠ blank) (hm : wf m = true) (hl : lacks m a = true) :
    wf (insert m a v) = true := by
  induction m with
  | nil => simp [insert, wf, hv, above]
  | cons c t ih =>
    obtain ⟨k, w⟩ := c
    simp only [wf, Bool.and_eq_true, decide_eq_true_eq] at hm
    simp only [lacks, List.all_cons, Bool.and_eq_true, decide_eq_true_eq] at hl
    by_cases h : a < k
    · simp only [insert, h, if_true, wf, Bool.and_eq_true, decide_eq_true_eq]
      refine ⟨⟨hv, ?_⟩, hm⟩
      simp only [above, List.all_cons, Bool.and_eq_true, decide_eq_true_eq]
      exact ⟨h, above_mono t (Nat.le_of_lt h) hm.1.2⟩
    · simp only [insert, h, if_false, wf, Bool.and_eq_true, decide_eq_true_eq]
      refine ⟨⟨hm.1.1, ?_⟩, ih hm.2 (by simpa [lacks] using hl.2)⟩
      exact all_insert _ t a v hm.1.2 (by simp; omega)

/-- A store keeps the canonical form. -/
theorem wf_write (m : Memory) (a : Nat) (v : Byte) (hm : wf m = true) : wf (write m a v) = true := by
  by_cases h : v = blank
  · simpa [write, h] using wf_erase m a hm
  · simpa [write, h] using wf_insert _ a v h (wf_erase m a hm) (lacks_erase m a)

theorem below_write (m : Memory) {a n : Nat} (v : Byte) (ha : a < n) (hm : below m n = true) : below (write m a v) n = true := by
  by_cases h : v = blank
  · rw [write, if_pos h]; exact all_erase _ m a hm
  · rw [write, if_neg h]; exact all_insert _ _ a v (all_erase _ m a hm) (by simpa using ha)

/-- A store inside the array keeps it canonical and in range. -/
theorem fits_write (m : Memory) {a n : Nat} (v : Byte) (ha : a < n) (hm : fits m n = true) : fits (write m a v) n = true := by
  simp only [fits, Bool.and_eq_true] at *
  exact ⟨wf_write m a v hm.1, below_write m v ha hm.2⟩

/-- Canonical arrays that read alike are equal. -/
theorem ext_of_read (m n : Memory) (hm : wf m = true) (hn : wf n = true) (h : ∀ a, m.read a = n.read a) : m = n := by
  induction m generalizing n with
  | nil =>
    cases n with
    | nil => rfl
    | cons c t =>
      obtain ⟨k, w⟩ := c
      have := h k
      simp [read] at this
      simp [wf, ← this] at hn
  | cons c t ih =>
    obtain ⟨k, w⟩ := c
    simp only [wf, Bool.and_eq_true, decide_eq_true_eq] at hm
    cases n with
    | nil => exact absurd (by simpa [read] using h k) hm.1.1
    | cons c' t' =>
      obtain ⟨k', w'⟩ := c'
      simp only [wf, Bool.and_eq_true, decide_eq_true_eq] at hn
      have hkk : k = k' := by
        rcases Nat.lt_trichotomy k k' with hlt | heq | hgt
        · have := h k
          simp only [read, if_true, if_neg (show ¬ k' = k by omega)] at this
          rw [read_eq_blank_of_above t' hn.1.2 (Nat.le_of_lt hlt)] at this
          exact absurd this hm.1.1
        · exact heq
        · have := h k'
          simp only [read, if_true, if_neg (show ¬ k = k' by omega)] at this
          rw [read_eq_blank_of_above t hm.1.2 (Nat.le_of_lt hgt)] at this
          exact absurd this.symm hn.1.1
      subst hkk
      have hww : w = w' := by simpa [read] using h k
      subst hww
      refine congrArg _ (ih t' hm.2 hn.2 fun a => ?_)
      by_cases hka : k = a
      · subst hka
        rw [read_eq_blank_of_above t hm.1.2 (Nat.le_refl _), read_eq_blank_of_above t' hn.1.2 (Nat.le_refl _)]
      · simpa [read, hka] using h a

end Sys2Proof.Machine.Memory
end

