-- ==== Sys2Proof/Laws/Bus.lean ====
section
/-! SUPPORT. What bus accesses change and what they keep (20_memory.md R98 to R123): the bounds of the address map, the fields no
access changes, and the good states every access keeps. -/

namespace Sys2Proof.Machine

/-- A function of a choice, by its two cases. -/
theorem ite_of {α β : Type} (f : α → β) {p : Prop} [Decidable p] {x y : α} {k : β} (hx : p → f x = k) (hy : ¬ p → f y = k) :
    f (if p then x else y) = k := by
  by_cases h : p
  · rw [if_pos h]; exact hx h
  · rw [if_neg h]; exact hy h

/-- The addresses of a region and its offset (R82). -/
def Region.names : Region → Nat → Prop
  | .romFixed i, n => i < 0x4000 ∧ n = i
  | .romBanked i, n => i < 0x4000 ∧ n = 0x4000 + i
  | .vram i, n => i < 0x2000 ∧ n = 0x8000 + i
  | .eram i, n => i < 0x2000 ∧ n = 0xA000 + i
  | .wramFixed i, n => i < 0x1000 ∧ (n = 0xC000 + i ∨ n = 0xE000 + i)
  | .wramBanked i, n => i < 0x1000 ∧ (n = 0xD000 + i ∨ n = 0xF000 + i ∧ i < 0xE00)
  | .oam i, n => i < 0xA0 ∧ n = 0xFE00 + i
  | .unusable, n => 0xFEA0 ≤ n ∧ n < 0xFF00
  | .io o, n => o < 0x80 ∧ n = 0xFF00 + o
  | .hram i, n => i < 0x7F ∧ n = 0xFF80 + i
  | .ie, n => n = 0xFFFF

theorem wramRegion_eq (i : Nat) :
    i < 0x1000 ∧ wramRegion i = .wramFixed i ∨ 0x1000 ≤ i ∧ wramRegion i = .wramBanked (i - 0x1000) := by
  unfold wramRegion
  split
  · exact .inl ⟨by assumption, rfl⟩
  · exact .inr ⟨by omega, rfl⟩

/-- The address map names every address by its region (R82). -/
theorem region_names (a : Word) : (region a).names a.toNat := by
  have hlt : a.toNat < 0x10000 := a.isLt
  generalize hn : a.toNat = n at hlt
  unfold region
  rw [hn]
  dsimp only
  by_cases h0 : n < 0x4000
  · rw [if_pos h0]; exact ⟨h0, rfl⟩
  rw [if_neg h0]
  by_cases h1 : n < 0x8000
  · rw [if_pos h1]; exact ⟨by omega, by omega⟩
  rw [if_neg h1]
  by_cases h2 : n < 0xA000
  · rw [if_pos h2]; exact ⟨by omega, by omega⟩
  rw [if_neg h2]
  by_cases h3 : n < 0xC000
  · rw [if_pos h3]; exact ⟨by omega, by omega⟩
  rw [if_neg h3]
  by_cases h4 : n < 0xE000
  · rw [if_pos h4]
    generalize hm : n - 0xC000 = m
    rcases wramRegion_eq m with ⟨hw, e⟩ | ⟨hw, e⟩ <;> rw [e] <;> exact ⟨by omega, by omega⟩
  rw [if_neg h4]
  by_cases h5 : n < 0xFE00
  · rw [if_pos h5]
    generalize hm : n - 0xE000 = m
    rcases wramRegion_eq m with ⟨hw, e⟩ | ⟨hw, e⟩ <;> rw [e] <;> exact ⟨by omega, by omega⟩
  rw [if_neg h5]
  by_cases h6 : n < 0xFEA0
  · rw [if_pos h6]; exact ⟨by omega, by omega⟩
  rw [if_neg h6]
  by_cases h7 : n < 0xFF00
  · rw [if_pos h7]; exact ⟨by omega, by omega⟩
  rw [if_neg h7]
  by_cases h8 : n < 0xFF80
  · rw [if_pos h8]; exact ⟨by omega, by omega⟩
  rw [if_neg h8]
  by_cases h9 : n < 0xFFFF
  · rw [if_pos h9]; exact ⟨by omega, by omega⟩
  rw [if_neg h9]
  exact (show n = 0xFFFF by omega)

theorem region_romFixed {a : Word} {i : Nat} (h : region a = .romFixed i) : Region.names (.romFixed i) a.toNat := h ▸ region_names a

theorem region_romBanked {a : Word} {i : Nat} (h : region a = .romBanked i) : Region.names (.romBanked i) a.toNat := h ▸ region_names a

theorem region_vram {a : Word} {i : Nat} (h : region a = .vram i) : Region.names (.vram i) a.toNat := h ▸ region_names a

theorem region_eram {a : Word} {i : Nat} (h : region a = .eram i) : Region.names (.eram i) a.toNat := h ▸ region_names a

theorem region_wramFixed {a : Word} {i : Nat} (h : region a = .wramFixed i) : Region.names (.wramFixed i) a.toNat := h ▸ region_names a

theorem region_wramBanked {a : Word} {i : Nat} (h : region a = .wramBanked i) : Region.names (.wramBanked i) a.toNat := h ▸ region_names a

theorem region_oam {a : Word} {i : Nat} (h : region a = .oam i) : Region.names (.oam i) a.toNat := h ▸ region_names a

theorem region_io {a : Word} {o : Nat} (h : region a = .io o) : Region.names (.io o) a.toNat := h ▸ region_names a

theorem region_hram {a : Word} {i : Nat} (h : region a = .hram i) : Region.names (.hram i) a.toNat := h ▸ region_names a

namespace Bus

@[simp] theorem ioAt_setIo_same (b : Bus) (o : Nat) (v : Byte) : (b.setIo o v).ioAt o = v := Memory.read_write_same _ _ _

theorem ioAt_setIo_ne (b : Bus) {o p : Nat} (v : Byte) (h : p ≠ o) : (b.setIo o v).ioAt p = b.ioAt p := Memory.read_write_ne _ v h

theorem ioAt_setIo (b : Bus) (o p : Nat) (v : Byte) : (b.setIo o v).ioAt p = if p = o then v else b.ioAt p := Memory.read_write _ _ _ _

/-- The fields no bus access changes (R99, R100): the cartridge, the framebuffer, the buttons, the PPU's and the counter's
accumulators. -/
def kept (b : Bus) : Memory × Nat × CartKind × Bool × EramSize × List (Nat × List Byte) × Byte × Nat × Nat :=
  (b.rom, b.romLen, b.cartKind, b.color, b.eramSize, b.fb, b.buttons, b.dot, b.timaAcc)

@[simp] theorem kept_setIo (b : Bus) (o : Nat) (v : Byte) : (b.setIo o v).kept = b.kept := rfl

@[simp] theorem kept_request (b : Bus) (i : Nat) : (b.request i).kept = b.kept := rfl

@[simp] theorem kept_afterRead (b : Bus) (a : Word) : (b.afterRead a).kept = b.kept := by
  unfold afterRead; split <;> simp

@[simp] theorem kept_oamCopy (b : Bus) (page : Byte) (n : Nat) : (b.oamCopy page n).kept = b.kept := by
  induction n with
  | zero => rfl
  | succ n ih =>
    have := kept_afterRead (b.oamCopy page n) (mkWord page 0x00#8 + BitVec.ofNat 16 n)
    rw [ih] at this
    exact this

@[simp] theorem kept_hdmaStore (b : Bus) (d : Word) (v : Byte) : (b.hdmaStore d v).kept = b.kept := by
  unfold hdmaStore; split <;> rfl

@[simp] theorem kept_hdmaBytes (b : Bus) (src dst : Word) (n : Nat) : (b.hdmaBytes src dst n).kept = b.kept := by
  induction n with
  | zero => rfl
  | succ n ih => simp only [hdmaBytes, kept_hdmaStore, kept_afterRead, ih]

@[simp] theorem kept_hdmaUnit (b : Bus) (s d : Word) (l : Nat) (a : Bool) :
    ({ b with hdmaSrc := s, hdmaDst := d, hdmaLen := l, hdmaActive := a } : Bus).kept = b.kept := rfl

@[simp] theorem kept_hdmaCopy (b : Bus) (k : Nat) : (b.hdmaCopy k).kept = b.kept :=
  (kept_hdmaUnit _ _ _ _ _).trans (kept_hdmaBytes b b.hdmaSrc b.hdmaDst k)

@[simp] theorem kept_hblankChunk (b : Bus) : b.hblankChunk.kept = b.kept := by
  unfold hblankChunk
  split
  · exact (kept_hdmaUnit _ _ _ _ _).trans (kept_hdmaCopy b 16)
  · rfl

@[simp] theorem kept_writeHdma5 (b : Bus) (v : Byte) : (b.writeHdma5 v).kept = b.kept := by
  unfold writeHdma5
  refine ite_of kept (fun _ => rfl) fun _ => ite_of kept (fun _ => rfl) fun _ => ?_
  exact (kept_hdmaUnit _ _ _ _ _).trans (kept_hdmaCopy (b.setIo Io.hdma5 v) _)

@[simp] theorem kept_writeIoColor (b : Bus) (o : Nat) (v : Byte) : (b.writeIoColor o v).kept = b.kept := by
  unfold writeIoColor
  refine ite_of kept (fun _ => ?_) fun _ => ite_of kept (fun _ => ?_) fun _ => ite_of kept (fun _ => ?_) fun _ => ite_of kept (fun _ => ?_) fun _ => ite_of kept (fun _ => ?_) fun _ => ite_of kept (fun _ => ?_) fun _ => ite_of kept (fun _ => ?_) fun _ => ite_of kept (fun _ => ?_) fun _ => ite_of kept (fun _ => ?_) fun _ => ?_
  all_goals first | rfl | exact kept_writeHdma5 b v

@[simp] theorem kept_writeIo (b : Bus) (o : Nat) (v : Byte) : (b.writeIo o v).kept = b.kept := by
  unfold writeIo
  refine ite_of kept (fun _ => ?_) fun _ => ite_of kept (fun _ => ?_) fun _ => ite_of kept (fun _ => ?_) fun _ => ite_of kept (fun _ => ?_) fun _ => ite_of kept (fun _ => ?_) fun _ => ite_of kept (fun _ => ?_) fun _ => ?_
  all_goals first | rfl | exact kept_writeIoColor b o v | exact kept_oamCopy (b.setIo o v) v 160

@[simp] theorem kept_writeRom (b : Bus) (a : Nat) (v : Byte) : (b.writeRom a v).kept = b.kept := by
  unfold writeRom writeMbc1
  split
  · rfl
  · refine ite_of kept (fun _ => rfl) fun _ => ite_of kept (fun _ => rfl) fun _ => ite_of kept (fun _ => ?_) fun _ => rfl
    split <;> rfl

/-- No bus write changes the cartridge, the framebuffer, the buttons or the PPU's and the counter's accumulators (R99). -/
@[simp] theorem kept_write (b : Bus) (a : Word) (v : Byte) : (b.write a v).kept = b.kept := by
  unfold write
  split <;> first | rfl | exact kept_writeRom b _ v | exact kept_writeIo b _ v | skip
  split <;> rfl

/-- What the pixel pipeline's state is made of (10_state.md R74): `LY`, `STAT[2:0]`, `dot`. -/
def ppuView (b : Bus) : Byte × Byte × Nat := (b.ioAt Io.ly, b.ioAt Io.stat &&& 0x07#8, b.dot)

theorem ppuView_setIo (b : Bus) {o : Nat} (v : Byte) (h1 : o ≠ Io.ly) (h2 : o ≠ Io.stat) : (b.setIo o v).ppuView = b.ppuView := by
  simp only [ppuView, ioAt_setIo_ne b v h1.symm, ioAt_setIo_ne b v h2.symm]; rfl

@[simp] theorem ppuView_request (b : Bus) (i : Nat) : (b.request i).ppuView = b.ppuView :=
  ppuView_setIo b _ (by decide) (by decide)

@[simp] theorem ppuView_afterRead (b : Bus) (a : Word) : (b.afterRead a).ppuView = b.ppuView := by
  unfold afterRead; split <;> simp

@[simp] theorem ppuView_oamCopy (b : Bus) (page : Byte) (n : Nat) : (b.oamCopy page n).ppuView = b.ppuView := by
  induction n with
  | zero => rfl
  | succ n ih =>
    have := ppuView_afterRead (b.oamCopy page n) (mkWord page 0x00#8 + BitVec.ofNat 16 n)
    rw [ih] at this
    exact this

@[simp] theorem ppuView_hdmaStore (b : Bus) (d : Word) (v : Byte) : (b.hdmaStore d v).ppuView = b.ppuView := by
  unfold hdmaStore; split <;> rfl

@[simp] theorem ppuView_hdmaBytes (b : Bus) (src dst : Word) (n : Nat) : (b.hdmaBytes src dst n).ppuView = b.ppuView := by
  induction n with
  | zero => rfl
  | succ n ih => simp only [hdmaBytes, ppuView_hdmaStore, ppuView_afterRead, ih]

@[simp] theorem ppuView_hdmaUnit (b : Bus) (s d : Word) (l : Nat) (a : Bool) :
    ({ b with hdmaSrc := s, hdmaDst := d, hdmaLen := l, hdmaActive := a } : Bus).ppuView = b.ppuView := rfl

@[simp] theorem ppuView_hdmaCopy (b : Bus) (k : Nat) : (b.hdmaCopy k).ppuView = b.ppuView :=
  (ppuView_hdmaUnit _ _ _ _ _).trans (ppuView_hdmaBytes b b.hdmaSrc b.hdmaDst k)

@[simp] theorem ppuView_hblankChunk (b : Bus) : b.hblankChunk.ppuView = b.ppuView := by
  unfold hblankChunk
  split
  · exact (ppuView_hdmaUnit _ _ _ _ _).trans (ppuView_hdmaCopy b 16)
  · rfl

theorem ppuView_writeHdma5 (b : Bus) (v : Byte) : (b.writeHdma5 v).ppuView = b.ppuView := by
  have h := ppuView_setIo b (o := Io.hdma5) v (by decide) (by decide)
  unfold writeHdma5
  refine ite_of ppuView (fun _ => h) fun _ => ite_of ppuView (fun _ => h) fun _ => ?_
  exact (ppuView_hdmaUnit _ _ _ _ _).trans ((ppuView_hdmaCopy (b.setIo Io.hdma5 v) _).trans h)

theorem ppuView_writeIoColor (b : Bus) {o : Nat} (v : Byte) (h1 : o ≠ Io.ly) (h2 : o ≠ Io.stat) :
    (b.writeIoColor o v).ppuView = b.ppuView := by
  unfold writeIoColor
  refine ite_of ppuView (fun _ => ?_) fun _ => ite_of ppuView (fun _ => ?_) fun _ => ite_of ppuView (fun _ => ?_) fun _ => ite_of ppuView (fun _ => ?_) fun _ => ite_of ppuView (fun _ => ?_) fun _ => ite_of ppuView (fun _ => ?_) fun _ => ite_of ppuView (fun _ => ?_) fun _ => ite_of ppuView (fun _ => ?_) fun _ => ite_of ppuView (fun _ => ?_) fun _ => ?_
  all_goals
    first
    | exact ppuView_setIo b v h1 h2
    | exact ppuView_writeHdma5 b v
    | exact ppuView_setIo b _ (by decide) (by decide)

theorem ppuView_writeIo (b : Bus) (o : Nat) (v : Byte) : (b.writeIo o v).ppuView = b.ppuView := by
  unfold writeIo
  refine ite_of ppuView (fun h0 => ?_) fun h0 => ite_of ppuView (fun h1 => ?_) fun h1 => ite_of ppuView (fun h2 => ?_) fun h2 =>
    ite_of ppuView (fun _ => rfl) fun h3 => ite_of ppuView (fun _ => ?_) fun _ => ite_of ppuView (fun _ => ?_) fun _ => ?_
  · subst h0; exact ppuView_setIo b (o := Io.p1) _ (by decide) (by decide)
  · subst h1; exact ppuView_setIo b (o := Io.div) 0x00#8 (by decide) (by decide)
  · subst h2
    simp only [ppuView, ioAt_setIo_same, ioAt_setIo_ne b _ (show Io.ly ≠ Io.stat by decide)]
    have : (v &&& 0xF8#8 ||| b.ioAt Io.stat &&& 0x07#8) &&& 0x07#8 = b.ioAt Io.stat &&& 0x07#8 := by
      apply BitVec.eq_of_getLsbD_eq
      intro i hi
      have : i = 0 ∨ i = 1 ∨ i = 2 ∨ i = 3 ∨ i = 4 ∨ i = 5 ∨ i = 6 ∨ i = 7 := by omega
      rcases this with rfl | rfl | rfl | rfl | rfl | rfl | rfl | rfl <;> simp
    rw [this]; rfl
  · exact (ppuView_oamCopy (b.setIo o v) v 160).trans (ppuView_setIo b v h3 h2)
  · exact ppuView_writeIoColor b v h3 h2
  · exact ppuView_setIo b v h3 h2

theorem ppuView_writeRom (b : Bus) (a : Nat) (v : Byte) : (b.writeRom a v).ppuView = b.ppuView := by
  unfold writeRom writeMbc1
  split
  · rfl
  · refine ite_of ppuView (fun _ => rfl) fun _ => ite_of ppuView (fun _ => rfl) fun _ => ite_of ppuView (fun _ => ?_) fun _ => rfl
    split <;> rfl

/-- No bus write moves the pixel pipeline: `LY` and `STAT[2:0]` are read-only for the program (10_state.md R55, R58). -/
@[simp] theorem ppuView_write (b : Bus) (a : Word) (v : Byte) : (b.write a v).ppuView = b.ppuView := by
  unfold write
  split <;> first | rfl | exact ppuView_writeRom b _ v | exact ppuView_writeIo b _ v | skip
  split <;> rfl

/-- The pixel pipeline's invariant is about that view. -/
theorem ppuWf_congr {b c : Bus} (h : b.ppuView = c.ppuView) : b.ppuWf = c.ppuWf := by
  simp only [ppuView, Prod.mk.injEq] at h
  obtain ⟨h1, h2, h3⟩ := h
  have hm : (b.ioAt Io.stat).toNat % 4 = (c.ioAt Io.stat).toNat % 4 := by
    have e : ∀ x : Byte, x.toNat % 4 = (x &&& 0x07#8).toNat % 4 := by decide
    rw [e, h2, ← e]
  unfold ppuWf ppuMode lyNat
  rw [h1, h3, hm]

end Bus

end Sys2Proof.Machine
end

