-- ==== Sys2Proof/Laws/Access.lean ====
section
/-! SUPPORT. One lemma per row of the address map (20_memory.md R82): the region of an address given by its number, and what a bus
read, a bus write and `cell` are there. Proofs about the bus cite these instead of unfolding it. -/

namespace Sys2Proof.Machine

theorem toNat_address {n : Nat} (h : n < 0x10000) : (BitVec.ofNat 16 n).toNat = n := by
  rw [BitVec.toNat_ofNat]
  exact Nat.mod_eq_of_lt h

/-- `Region.names` determines the region. -/
theorem region_eq_of_names {a : Word} {r : Region} (hr : r.names a.toNat) : region a = r := by
  have n := region_names a
  generalize region a = q at n
  cases r <;> cases q <;> simp only [Region.names] at hr n <;> first | (exfalso; omega) | (congr 1; omega) | rfl

theorem region_ofNat {n : Nat} (h : n < 0x10000) {r : Region} (hr : r.names n) : region (BitVec.ofNat 16 n) = r :=
  region_eq_of_names (by rw [toNat_address h]; exact hr)

namespace Bus

variable (b : Bus) {a : Word}

theorem peek_romFixed {i : Nat} (h : region a = .romFixed i) : b.peek a = b.romByte i := by unfold peek; rw [h]
theorem peek_romBanked {i : Nat} (h : region a = .romBanked i) : b.peek a = b.romByte (b.effRomBank * 0x4000 + i) := by
  unfold peek; rw [h]
theorem peek_vram {i : Nat} (h : region a = .vram i) : b.peek a = b.vram.read (b.vramIndex i) := by unfold peek; rw [h]
theorem peek_eram {i : Nat} (h : region a = .eram i) :
    b.peek a = if b.eramVisible then b.eram.read (b.eramIndex i) else sentinel := by unfold peek; rw [h]
theorem peek_wramFixed {i : Nat} (h : region a = .wramFixed i) : b.peek a = b.wram.read i := by unfold peek; rw [h]
theorem peek_wramBanked {i : Nat} (h : region a = .wramBanked i) : b.peek a = b.wram.read (b.wramIndex i) := by
  unfold peek; rw [h]
theorem peek_oam {i : Nat} (h : region a = .oam i) : b.peek a = b.oam.read i := by unfold peek; rw [h]
theorem peek_unusable (h : region a = .unusable) : b.peek a = sentinel := by unfold peek; rw [h]
theorem peek_io {o : Nat} (h : region a = .io o) : b.peek a = b.readIo o := by unfold peek; rw [h]
theorem peek_hram {i : Nat} (h : region a = .hram i) : b.peek a = b.hram.read i := by unfold peek; rw [h]
theorem peek_ie (h : region a = .ie) : b.peek a = b.ie := by unfold peek; rw [h]

theorem write_romFixed {i : Nat} (v : Byte) (h : region a = .romFixed i) : b.write a v = b.writeRom a.toNat v := by
  unfold write; rw [h]
theorem write_romBanked {i : Nat} (v : Byte) (h : region a = .romBanked i) : b.write a v = b.writeRom a.toNat v := by
  unfold write; rw [h]
theorem write_vram {i : Nat} (v : Byte) (h : region a = .vram i) :
    b.write a v = { b with vram := b.vram.write (b.vramIndex i) v } := by unfold write; rw [h]
theorem write_eram {i : Nat} (v : Byte) (h : region a = .eram i) :
    b.write a v = if b.eramVisible then { b with eram := b.eram.write (b.eramIndex i) v } else b := by unfold write; rw [h]
theorem write_wramFixed {i : Nat} (v : Byte) (h : region a = .wramFixed i) :
    b.write a v = { b with wram := b.wram.write i v } := by unfold write; rw [h]
theorem write_wramBanked {i : Nat} (v : Byte) (h : region a = .wramBanked i) :
    b.write a v = { b with wram := b.wram.write (b.wramIndex i) v } := by unfold write; rw [h]
theorem write_oam {i : Nat} (v : Byte) (h : region a = .oam i) : b.write a v = { b with oam := b.oam.write i v } := by
  unfold write; rw [h]
theorem write_unusable (v : Byte) (h : region a = .unusable) : b.write a v = b := by unfold write; rw [h]
theorem write_io {o : Nat} (v : Byte) (h : region a = .io o) : b.write a v = b.writeIo o v := by unfold write; rw [h]
theorem write_hram {i : Nat} (v : Byte) (h : region a = .hram i) : b.write a v = { b with hram := b.hram.write i v } := by
  unfold write; rw [h]
theorem write_ie (v : Byte) (h : region a = .ie) : b.write a v = { b with ie := v } := by unfold write; rw [h]

/-- What decides the cell an address stands for: the banks and sizes. -/
theorem cell_congr {c : Bus} (h1 : b.effRomBank = c.effRomBank) (h2 : b.vramSel = c.vramSel) (h3 : b.wramSel = c.wramSel)
    (h4 : b.eramVisible = c.eramVisible) (h5 : ∀ i, b.eramIndex i = c.eramIndex i) (a : Word) : b.cell a = c.cell a := by
  unfold cell vramIndex wramIndex
  rw [h1, h2, h3, h4]
  cases region a <;> simp only [h5]

end Bus

end Sys2Proof.Machine
end

