-- ==== Sys2Proof/Laws/Bits.lean ====
section
/-! SUPPORT. Bytes, words, pairs and the flags byte. -/

namespace Sys2Proof.Machine

@[simp] theorem mkWord_hiByte_loByte (v : Word) : mkWord (hiByte v) (loByte v) = v := by
  apply BitVec.eq_of_getLsbD_eq
  intro i hi
  simp only [mkWord, hiByte, loByte, BitVec.getLsbD_append, BitVec.getLsbD_extractLsb']
  by_cases h : i < 8
  · simp [h]
  · rw [if_neg h, show 8 + (i - 8) = i by omega, decide_eq_true (show i - 8 < 8 by omega), Bool.true_and]

@[simp] theorem hiByte_mkWord (a b : Byte) : hiByte (mkWord a b) = a := by
  apply BitVec.eq_of_getLsbD_eq
  intro i hi
  simp only [hiByte, mkWord, BitVec.getLsbD_extractLsb', BitVec.getLsbD_append]
  rw [if_neg (by omega), show 8 + i - 8 = i by omega, decide_eq_true hi, Bool.true_and]

@[simp] theorem loByte_mkWord (a b : Byte) : loByte (mkWord a b) = b := by
  apply BitVec.eq_of_getLsbD_eq
  intro i hi
  simp only [loByte, mkWord, BitVec.getLsbD_extractLsb', BitVec.getLsbD_append]
  rw [Nat.zero_add, if_pos hi, decide_eq_true hi, Bool.true_and]

@[simp] theorem flagsOf_toByte (fl : Flags) : flagsOf fl.toByte = fl := by
  obtain ⟨z, n, h, c⟩ := fl
  cases z <;> cases n <;> cases h <;> cases c <;> rfl

@[simp] theorem toByte_low (fl : Flags) : fl.toByte &&& 0x0F#8 = 0#8 := by
  obtain ⟨z, n, h, c⟩ := fl
  cases z <;> cases n <;> cases h <;> cases c <;> rfl

/-- Masking with 0xF0 leaves a zero low nibble (10_state.md R24). -/
@[simp] theorem masked_low (v : Byte) : v &&& 0xF0#8 &&& 0x0F#8 = 0#8 := by
  rw [BitVec.and_assoc]; simp

end Sys2Proof.Machine
end

