-- ==== Sys2Proof/Laws/Good.lean ====
section
/-! SUPPORT. The good states of the bus, as one structure, and that every bus access keeps them. -/

namespace Sys2Proof.Machine.Bus

/-- The invariants of Safety.lean about the bus, apart from the pixel pipeline's, as propositions. -/
structure Good (b : Bus) : Prop where
  rom : b.rom.fits b.romLen = true
  vram : b.vram.fits 0x4000 = true
  eram : b.eram.fits b.eramSize.bytes = true
  wram : b.wram.fits 0x8000 = true
  oam : b.oam.fits 0xA0 = true
  io : b.io.fits 0x80 = true
  hram : b.hram.fits 0x7F = true
  bgPal : b.bgPal.fits 0x40 = true
  objPal : b.objPal.fits 0x40 = true
  lines : linesFrom 0 b.fb = true
  romBank : b.romBank.toNat % 32 ≠ 0
  wramBank : b.wramBank ≠ 0#3
  divAcc : b.divAcc < 256
  timaAcc : b.timaAcc < 1024
  hdmaLen : b.hdmaLen ≤ 128
  hdmaArmed : b.hdmaActive = true → 0 < b.hdmaLen
  joypad : b.ioAt Io.p1 &&& 0xCF#8 = 0#8

theorem good_iff (b : Bus) : b.Good ↔
    b.arraysWf = true ∧ b.banksWf = true ∧ b.timerWf = true ∧ b.hdmaWf = true ∧ b.joypadWf = true := by
  constructor
  · rintro ⟨h1, h2, h3, h4, h5, h6, h7, h8, h9, h10, h11, h12, h13, h14, h15, h16, h17⟩
    refine ⟨?_, ?_, ?_, ?_, ?_⟩
    · simp [arraysWf, h1, h2, h3, h4, h5, h6, h7, h8, h9, h10]
    · simp [banksWf, h11, h12]
    · simp [timerWf, h13, h14]
    · cases hb : b.hdmaActive <;> simp [hdmaWf, hb, h15]; exact h16 hb
    · simpa [joypadWf] using h17
  · rintro ⟨ha, hb, ht, hd, hj⟩
    simp only [arraysWf, banksWf, timerWf, hdmaWf, joypadWf, Bool.and_eq_true, decide_eq_true_eq, Bool.or_eq_true,
      Bool.not_eq_true'] at ha hb ht hd hj
    obtain ⟨⟨⟨⟨⟨⟨⟨⟨⟨h1, h2⟩, h3⟩, h4⟩, h5⟩, h6⟩, h7⟩, h8⟩, h9⟩, h10⟩ := ha
    exact ⟨h1, h2, h3, h4, h5, h6, h7, h8, h9, h10, hb.1, hb.2, ht.1, ht.2, hd.1, fun h => hd.2.resolve_left (by simp [h]), hj⟩

theorem vramIndex_lt (b : Bus) {i : Nat} (h : i < 0x2000) : b.vramIndex i < 0x4000 := by
  have := b.vramBank.isLt
  unfold vramIndex vramSel
  split <;> omega

theorem wramIndex_lt (b : Bus) {i : Nat} (h : i < 0x1000) : b.wramIndex i < 0x8000 := by
  have := b.wramBank.isLt
  unfold wramIndex wramSel
  split <;> omega

theorem eramIndex_lt (b : Bus) {i : Nat} (h : b.eramVisible = true) : b.eramIndex i < b.eramSize.bytes := by
  simp only [eramVisible, Bool.and_eq_true, decide_eq_true_eq] at h
  exact Nat.mod_lt _ (Nat.pos_of_ne_zero h.2)

theorem palIndex_lt (b : Bus) (o : Nat) : b.palIndex o < 0x40 := Nat.mod_lt _ (by decide)

/-- Storing an I/O cell keeps a good state, if the joypad cell keeps its select bits only. -/
theorem Good.setIo {b : Bus} (h : b.Good) {o : Nat} {v : Byte} (ho : o < 0x80) (hv : o = Io.p1 → v &&& 0xCF#8 = 0#8) :
    (b.setIo o v).Good :=
  { h with
    io := Memory.fits_write b.io v ho h.io
    joypad := by
      rw [ioAt_setIo]
      by_cases e : Io.p1 = o
      · rw [if_pos e]; exact hv e.symm
      · rw [if_neg e]; exact h.joypad }

theorem Good.request {b : Bus} (h : b.Good) (i : Nat) : (b.request i).Good :=
  h.setIo (o := Io.ifl) (by decide) (fun e => absurd e (by decide))

theorem Good.afterRead {b : Bus} (h : b.Good) (a : Word) : (b.afterRead a).Good := by
  by_cases c : a = 0xFF00#16 ∧ b.joypadLow ≠ 0x0F#8
  · rw [Bus.afterRead, if_pos c]; exact h.request 4
  · rw [Bus.afterRead, if_neg c]; exact h

theorem Good.oamCopy {b : Bus} (h : b.Good) (page : Byte) {n : Nat} (hn : n ≤ 160) : (b.oamCopy page n).Good := by
  induction n with
  | zero => exact h
  | succ n ih =>
    have g := (ih (by omega)).afterRead (mkWord page 0x00#8 + BitVec.ofNat 16 n)
    exact { g with oam := Memory.fits_write _ _ (by omega) (ih (by omega)).oam }

theorem Good.hdmaStore {b : Bus} (h : b.Good) (d : Word) (v : Byte) : (b.hdmaStore d v).Good := by
  unfold Bus.hdmaStore
  split
  · rename_i i e
    exact { h with vram := Memory.fits_write _ _ (b.vramIndex_lt (region_vram e).1) h.vram }
  · exact h

theorem Good.hdmaBytes {b : Bus} (h : b.Good) (src dst : Word) (n : Nat) : (b.hdmaBytes src dst n).Good := by
  induction n with
  | zero => exact h
  | succ n ih => exact (ih.afterRead _).hdmaStore _ _

/-- The DMA copies touch no field of the VRAM-DMA unit but its addresses. -/
def unit (b : Bus) : Nat × Bool := (b.hdmaLen, b.hdmaActive)

@[simp] theorem unit_afterRead (b : Bus) (a : Word) : (b.afterRead a).unit = b.unit := by
  unfold afterRead; split <;> rfl

@[simp] theorem unit_hdmaStore (b : Bus) (d : Word) (v : Byte) : (b.hdmaStore d v).unit = b.unit := by
  unfold hdmaStore; split <;> rfl

@[simp] theorem unit_hdmaBytes (b : Bus) (src dst : Word) (n : Nat) : (b.hdmaBytes src dst n).unit = b.unit := by
  induction n with
  | zero => rfl
  | succ n ih => simp only [hdmaBytes, unit_hdmaStore, unit_afterRead, ih]

theorem Good.addresses {b : Bus} (h : b.Good) (s d : Word) : ({ b with hdmaSrc := s, hdmaDst := d } : Bus).Good := { h with }

theorem Good.hdmaCopy {b : Bus} (h : b.Good) (k : Nat) : (b.hdmaCopy k).Good :=
  (h.hdmaBytes b.hdmaSrc b.hdmaDst k).addresses _ _

theorem Good.arm {b : Bus} (h : b.Good) {l : Nat} {a : Bool} (hl : l ≤ 128) (ha : a = true → 0 < l) :
    ({ b with hdmaLen := l, hdmaActive := a } : Bus).Good :=
  { h with hdmaLen := hl, hdmaArmed := ha }

theorem Good.hblankChunk {b : Bus} (h : b.Good) : b.hblankChunk.Good := by
  unfold Bus.hblankChunk
  split
  · refine (h.hdmaCopy 16).arm ?_ ?_
    · exact Nat.le_trans (Nat.sub_le _ _) (h.hdmaCopy 16).hdmaLen
    · intro ha
      have : (b.hdmaCopy 16).hdmaLen - 1 ≠ 0 := of_decide_eq_true ha
      omega
  · exact h

theorem Good.writeHdma5 {b : Bus} (h : b.Good) (v : Byte) : (b.writeHdma5 v).Good := by
  have g : (b.setIo Io.hdma5 v).Good := h.setIo (by decide) (fun e => absurd e (by decide))
  unfold Bus.writeHdma5
  dsimp only
  split
  · exact g.arm (a := false) g.hdmaLen (fun e => absurd e (by decide))
  · split
    · exact g.arm (by omega) (by omega)
    · exact (g.hdmaCopy _).arm (by omega) (fun e => absurd e (by decide))

theorem svbkBank_ne (v : Byte) : svbkBank v ≠ 0#3 := by
  unfold svbkBank
  dsimp only
  split
  · decide
  · assumption

theorem Good.writeIoColor {b : Bus} (h : b.Good) {o : Nat} (v : Byte) (ho : o < 0x80) (h0 : o ≠ Io.p1) : (b.writeIoColor o v).Good := by
  have g : (b.setIo o v).Good := h.setIo ho (fun e => absurd e h0)
  unfold Bus.writeIoColor
  split; · exact { g with }
  split; · exact { g with }
  split; · exact { g with }
  split; · exact { g with }
  split; · exact { g with }
  split; · exact h.writeHdma5 v
  split
  · have g' : (b.setIo Io.bcps (palAdvance (b.ioAt Io.bcps))).Good := h.setIo (by decide) (fun e => absurd e (by decide))
    exact { g' with bgPal := Memory.fits_write _ _ (b.palIndex_lt _) h.bgPal }
  split
  · have g' : (b.setIo Io.ocps (palAdvance (b.ioAt Io.ocps))).Good := h.setIo (by decide) (fun e => absurd e (by decide))
    exact { g' with objPal := Memory.fits_write _ _ (b.palIndex_lt _) h.objPal }
  split; · exact { g with wramBank := svbkBank_ne v }
  exact g

theorem Good.writeIo {b : Bus} (h : b.Good) {o : Nat} (v : Byte) (ho : o < 0x80) : (b.writeIo o v).Good := by
  unfold Bus.writeIo
  split
  · exact h.setIo ho (fun _ => by rw [BitVec.and_assoc]; simp)
  rename_i h0
  split
  · have g : (b.setIo o 0x00#8).Good := h.setIo ho (fun e => absurd e h0)
    exact { g with divAcc := (show 0 < 256 by decide) }
  split
  · exact h.setIo ho (fun e => absurd e h0)
  split
  · exact h
  split
  · exact (h.setIo ho (fun e => absurd e h0)).oamCopy v (Nat.le_refl 160)
  split
  · exact h.writeIoColor v ho h0
  · exact h.setIo ho (fun e => absurd e h0)

/-- The low part of the ROM bank is never 0 (20_memory.md R103). -/
theorem romBank_low (hi : BitVec 2) (lo : BitVec 5) : (hi ++ lo : BitVec 7).toNat % 32 = lo.toNat := by
  have := lo.isLt
  rw [BitVec.toNat_append, Nat.shiftLeft_eq, ← Nat.shiftLeft_eq, ← Nat.shiftLeft_add_eq_or_of_lt this, Nat.shiftLeft_eq]
  omega

theorem Good.writeRom {b : Bus} (h : b.Good) (a : Nat) (v : Byte) : (b.writeRom a v).Good := by
  unfold Bus.writeRom
  split
  · exact h
  unfold Bus.writeMbc1
  split
  · exact { h with }
  split
  · refine { h with romBank := ?_ }
    dsimp only
    rw [romBank_low]
    split
    · decide
    · rename_i hn
      exact fun e => hn (BitVec.eq_of_toNat_eq e)
  split
  · split
    · refine { h with romBank := ?_ }
      dsimp only
      rw [romBank_low]
      have := h.romBank
      simpa [BitVec.extractLsb'_toNat] using this
    · exact { h with }
  · exact { h with }

/-- Every bus write keeps a good state. -/
theorem Good.write {b : Bus} (h : b.Good) (a : Word) (v : Byte) : (b.write a v).Good := by
  unfold Bus.write
  split
  · exact h.writeRom _ v
  · exact h.writeRom _ v
  · rename_i i e
    exact { h with vram := Memory.fits_write _ _ (b.vramIndex_lt (region_vram e).1) h.vram }
  · split
    · rename_i hv
      exact { h with eram := Memory.fits_write _ _ (b.eramIndex_lt hv) h.eram }
    · exact h
  · rename_i i e
    exact { h with wram := Memory.fits_write _ _ (Nat.lt_of_lt_of_le (region_wramFixed e).1 (by decide)) h.wram }
  · rename_i i e
    exact { h with wram := Memory.fits_write _ _ (b.wramIndex_lt (region_wramBanked e).1) h.wram }
  · rename_i i e
    exact { h with oam := Memory.fits_write _ _ (region_oam e).1 h.oam }
  · exact h
  · rename_i o e
    exact h.writeIo v (region_io e).1
  · rename_i i e
    exact { h with hram := Memory.fits_write _ _ (region_hram e).1 h.hram }
  · exact { h with }

end Sys2Proof.Machine.Bus
end

