-- ==== Sys2Proof/Laws/Devices.lean ====
section
/-! SUPPORT. What a device step changes and keeps (60_exceptions.md R360 to R390). -/

namespace Sys2Proof.Machine.Bus

/-! The timer. -/

theorem Good.dividerStep {b : Bus} (h : b.Good) (c : Nat) : (b.dividerStep c).Good := by
  have g : (b.setIo Io.div (b.ioAt Io.div + BitVec.ofNat 8 ((b.divAcc + c) / Config.dividerPeriod))).Good :=
    h.setIo (by decide) (fun e => absurd e (by decide))
  exact { g with divAcc := Nat.mod_lt _ (by decide) }

theorem Good.timaTick {b : Bus} (h : b.Good) : b.timaTick.Good := by
  have g (v : Byte) : (b.setIo Io.tima v).Good := h.setIo (by decide) (fun e => absurd e (by decide))
  unfold Bus.timaTick
  split
  · exact (g _).request 2
  · exact g _

theorem Good.timaTicks {b : Bus} (h : b.Good) (n : Nat) : (b.timaTicks n).Good := by
  induction n with
  | zero => exact h
  | succ n ih => exact ih.timaTick

theorem timerPeriod_pos (b : Bus) : 0 < b.timerPeriod := by
  unfold timerPeriod; split <;> decide

theorem timerPeriod_le (b : Bus) : b.timerPeriod ≤ 1024 := by
  unfold timerPeriod; split <;> decide

theorem Good.counterStep {b : Bus} (h : b.Good) (c : Nat) : (b.counterStep c).Good := by
  unfold Bus.counterStep
  split
  · exact { h.timaTicks _ with timaAcc := Nat.lt_of_lt_of_le (Nat.mod_lt _ b.timerPeriod_pos) b.timerPeriod_le }
  · exact h

/-- A timer step keeps a good state. -/
theorem Good.timerStep {b : Bus} (h : b.Good) (c : Nat) : (b.timerStep c).Good := (h.dividerStep c).counterStep c

theorem ppuView_timaTick (b : Bus) : b.timaTick.ppuView = b.ppuView := by
  have g (v : Byte) : (b.setIo Io.tima v).ppuView = b.ppuView := ppuView_setIo b v (by decide) (by decide)
  unfold timaTick
  split
  · exact (ppuView_request _ 2).trans (g _)
  · exact g _

theorem ppuView_timaTicks (b : Bus) (n : Nat) : (b.timaTicks n).ppuView = b.ppuView := by
  induction n with
  | zero => rfl
  | succ n ih => exact (ppuView_timaTick _).trans ih

/-- A timer step does not touch the pixel pipeline. -/
theorem ppuView_timerStep (b : Bus) (c : Nat) : (b.timerStep c).ppuView = b.ppuView := by
  have g : (b.dividerStep c).ppuView = b.ppuView :=
    ppuView_setIo b (o := Io.div) (b.ioAt Io.div + BitVec.ofNat 8 ((b.divAcc + c) / Config.dividerPeriod)) (by decide) (by decide)
  unfold timerStep counterStep
  split
  · exact (ppuView_timaTicks _ _).trans g
  · exact g

/-! The pixel pipeline. -/

/-- The scanline, the mode and `dot`. -/
def line (b : Bus) : Nat × Nat × Nat := (b.lyNat, b.ppuMode, b.dot)

theorem line_of_ppuView {b c : Bus} (h : b.ppuView = c.ppuView) : b.line = c.line := by
  simp only [ppuView, Prod.mk.injEq] at h
  obtain ⟨h1, h2, h3⟩ := h
  have e : ∀ x : Byte, x.toNat % 4 = (x &&& 0x07#8).toNat % 4 := by decide
  simp only [line, lyNat, ppuMode, h1, h3]
  rw [e, h2, ← e]

@[simp] theorem line_statRequest (b : Bus) (i : Nat) : (b.statRequest i).line = b.line := by
  unfold statRequest
  split
  · exact line_of_ppuView (ppuView_request b 1)
  · rfl

@[simp] theorem line_setStat (b : Bus) (v : Byte) : (b.setIo Io.stat v).line = (b.lyNat, v.toNat % 4, b.dot) := by
  simp only [line, lyNat, ppuMode, ioAt_setIo_same, ioAt_setIo_ne b v (show Io.ly ≠ Io.stat by decide)]
  rfl

theorem line_setMode (b : Bus) (m : Byte) (hm : m = 0#8 ∨ m = 1#8 ∨ m = 2#8 ∨ m = 3#8) :
    (b.setMode m).line = (b.lyNat, m.toNat, b.dot) := by
  have e0 : ∀ x : Byte, (x &&& 0xFC#8 ||| 0#8).toNat % 4 = 0 := by decide
  have e1 : ∀ x : Byte, (x &&& 0xFC#8 ||| 1#8).toNat % 4 = 1 := by decide
  have e2 : ∀ x : Byte, (x &&& 0xFC#8 ||| 2#8).toNat % 4 = 2 := by decide
  have e3 : ∀ x : Byte, (x &&& 0xFC#8 ||| 3#8).toNat % 4 = 3 := by decide
  unfold setMode
  rw [line_setStat]
  rcases hm with rfl | rfl | rfl | rfl
  · rw [e0]; rfl
  · rw [e1]; rfl
  · rw [e2]; rfl
  · rw [e3]; rfl

@[simp] theorem line_compareLy (b : Bus) : b.compareLy.line = b.line := by
  have e1 : ∀ x : Byte, (withBit x 2).toNat % 4 = x.toNat % 4 := by decide
  have e2 : ∀ x : Byte, (withoutBit x 2).toNat % 4 = x.toNat % 4 := by decide
  unfold compareLy
  split
  · rw [line_statRequest, line_setStat, e1]; rfl
  · rw [line_setStat, e2]; rfl

theorem line_atLy (b : Bus) (n d : Nat) (h : n < 256) :
    ({ b.setIo Io.ly (BitVec.ofNat 8 n) with dot := d } : Bus).line = (n, b.ppuMode, d) := by
  have e1 : (b.setIo Io.ly (BitVec.ofNat 8 n)).lyNat = n := by simpa [lyNat] using h
  have e2 : (b.setIo Io.ly (BitVec.ofNat 8 n)).ppuMode = b.ppuMode := by
    simp only [ppuMode, ioAt_setIo_ne b _ (show Io.stat ≠ Io.ly by decide)]
  exact Prod.ext e1 (Prod.ext e2 rfl)

theorem line_nextLine (b : Bus) : b.nextLine.line = ((b.lyNat + 1) % 154, b.ppuMode, b.dot - 456) :=
  line_atLy b _ _ (Nat.lt_trans (Nat.mod_lt _ (by decide)) (by decide))

theorem line_enterVblank (b : Bus) : b.enterVblank.line = (b.lyNat, 1, b.dot) := by
  unfold enterVblank
  rw [line_statRequest, line_of_ppuView (ppuView_request _ 0), line_setMode b 1#8 (by simp)]
  rfl

theorem line_enterOamScan (b : Bus) : b.enterOamScan.line = (b.lyNat, 2, b.dot) := by
  unfold enterOamScan
  rw [line_statRequest, line_setMode b 2#8 (by simp)]
  rfl

/-- The mode a scanline begins with (R383, R384); the later lines of vertical blank keep it. -/
theorem line_enterLine (b : Bus) :
    b.enterLine.line = (b.lyNat, if b.lyNat = 144 then 1 else if b.lyNat < 144 then 2 else b.ppuMode, b.dot) := by
  unfold enterLine
  by_cases h : b.lyNat = Config.vblankLine
  · rw [if_pos h, if_pos h, line_enterVblank]
  · rw [if_neg h, if_neg h]
    by_cases h' : b.lyNat < Config.vblankLine
    · rw [if_pos h', if_pos h', line_enterOamScan]
    · rw [if_neg h', if_neg h']; rfl

/-- What a scanline boundary does to the line (R381). -/
theorem line_boundary (b : Bus) :
    b.boundary.1.line =
      if 456 ≤ b.dot then
        let ly := (b.lyNat + 1) % 154
        (ly, if ly = 144 then 1 else if ly < 144 then 2 else b.ppuMode, b.dot - 456)
      else b.line := by
  unfold boundary
  by_cases h : Config.lineCycles ≤ b.dot
  · rw [if_pos h, if_pos h]
    have e := (line_compareLy b.nextLine).trans (line_nextLine b)
    rw [line_enterLine]
    simp only [line, Prod.mk.injEq] at e
    simp only [e.1, e.2.1, e.2.2]
  · rw [if_neg h, if_neg h]

theorem line_startDrawing (p : Params) (b : Bus) :
    (startDrawing p b).line = (b.lyNat, if b.lyNat < 144 ∧ b.ppuMode = 2 ∧ 80 ≤ b.dot then 3 else b.ppuMode, b.dot) := by
  unfold startDrawing
  by_cases h : b.lyNat < Config.vblankLine ∧ b.ppuMode = 2 ∧ Config.drawingDot ≤ b.dot
  · rw [if_pos h, if_pos h]
    exact line_setMode b 3#8 (by simp)
  · rw [if_neg h, if_neg h]; rfl

theorem line_startHblank (b : Bus) :
    b.startHblank.line = (b.lyNat, if b.lyNat < 144 ∧ b.ppuMode = 3 ∧ 252 ≤ b.dot then 0 else b.ppuMode, b.dot) := by
  unfold startHblank
  by_cases h : b.lyNat < Config.vblankLine ∧ b.ppuMode = 3 ∧ Config.hblankDot ≤ b.dot
  · rw [if_pos h, if_pos h, line_of_ppuView (ppuView_hblankChunk _), line_statRequest]
    exact line_setMode b 0#8 (by simp)
  · rw [if_neg h, if_neg h]; rfl

/-- The pixel pipeline's invariant, as a proposition about the line (R390). -/
theorem ppuWf_iff (b : Bus) : b.ppuWf = true ↔
    b.lyNat ≤ 153 ∧ b.dot < 456 ∧ b.dot % 4 = 0 ∧
      b.ppuMode = if 144 ≤ b.lyNat then 1 else if b.dot < 80 then 2 else if b.dot < 252 then 3 else 0 := by
  simp only [ppuWf, Bool.and_eq_true, decide_eq_true_eq, and_assoc]

theorem Good.statRequest {b : Bus} (h : b.Good) (i : Nat) : (b.statRequest i).Good := by
  unfold Bus.statRequest; split; exacts [h.request 1, h]

theorem Good.setStat {b : Bus} (h : b.Good) (v : Byte) : (b.setIo Io.stat v).Good :=
  h.setIo (by decide) (fun e => absurd e (by decide))

theorem Good.atLy {b : Bus} (h : b.Good) (n d : Nat) : ({ b.setIo Io.ly (BitVec.ofNat 8 n) with dot := d } : Bus).Good := by
  have g : (b.setIo Io.ly (BitVec.ofNat 8 n)).Good := h.setIo (by decide) (fun e => absurd e (by decide))
  exact { g with }

theorem Good.nextLine {b : Bus} (h : b.Good) : b.nextLine.Good := h.atLy _ _

theorem Good.compareLy {b : Bus} (h : b.Good) : b.compareLy.Good := by
  unfold Bus.compareLy
  split
  · exact (h.setStat _).statRequest 6
  · exact h.setStat _

theorem Good.enterLine {b : Bus} (h : b.Good) : b.enterLine.Good := by
  unfold Bus.enterLine
  by_cases c : b.lyNat = Config.vblankLine
  · rw [if_pos c]; exact ((h.setStat _).request 0).statRequest 4
  · rw [if_neg c]
    by_cases c : b.lyNat < Config.vblankLine
    · rw [if_pos c]; exact (h.setStat _).statRequest 5
    · rw [if_neg c]; exact h

theorem Good.boundary {b : Bus} (h : b.Good) : b.boundary.1.Good := by
  unfold Bus.boundary
  by_cases c : Config.lineCycles ≤ b.dot
  · rw [if_pos c]; exact h.nextLine.compareLy.enterLine
  · rw [if_neg c]; exact h

theorem length_lineBytes (p : Params) (b : Bus) (ly : Nat) : (lineBytes p b ly).length = 640 := by
  simp [lineBytes, lineShades, rgbaBytes, List.length_flatMap, Function.comp_def]
  decide

/-! What `lineOf` reads after a line is replaced, and that the framebuffer keeps its canonical form. -/

theorem lineOf_eraseLine (fb : List (Nat × List Byte)) (ly k : Nat) :
    lineOf (eraseLine fb ly) k = if k = ly then blankLine else lineOf fb k := by
  induction fb with
  | nil => simp [lineOf, eraseLine]
  | cons e t ih =>
    obtain ⟨j, w⟩ := e
    by_cases c : j = ly
    · subst c
      by_cases c2 : k = j
      · subst c2; simpa [eraseLine] using ih
      · simp [eraseLine, lineOf, ih, c2, Ne.symm c2]
    · by_cases c2 : j = k
      · subst c2; simp [eraseLine, lineOf, c]
      · simp [eraseLine, lineOf, c, c2, ih]

theorem lineOf_insertLine_self (fb : List (Nat × List Byte)) (ly : Nat) (px : List Byte) (h : ∀ e ∈ fb, e.1 ≠ ly) :
    lineOf (insertLine fb ly px) ly = px := by
  induction fb with
  | nil => simp [lineOf, insertLine]
  | cons e t ih =>
    obtain ⟨j, w⟩ := e
    simp only [List.mem_cons, forall_eq_or_imp] at h
    by_cases c : ly < j
    · simp [insertLine, lineOf, c]
    · simp [insertLine, lineOf, c, h.1, ih h.2]

theorem lineOf_insertLine_of_ne (fb : List (Nat × List Byte)) {ly k : Nat} (px : List Byte) (h : k ≠ ly) :
    lineOf (insertLine fb ly px) k = lineOf fb k := by
  induction fb with
  | nil => simp [lineOf, insertLine, Ne.symm h]
  | cons e t ih =>
    obtain ⟨j, w⟩ := e
    by_cases c : ly < j
    · simp [insertLine, lineOf, c, Ne.symm h]
    · simp [insertLine, lineOf, c, ih]

theorem mem_eraseLine_ne (fb : List (Nat × List Byte)) (ly : Nat) : ∀ e ∈ eraseLine fb ly, e.1 ≠ ly := by
  induction fb with
  | nil => simp [eraseLine]
  | cons e t ih =>
    obtain ⟨j, w⟩ := e
    by_cases c : j = ly
    · simpa [eraseLine, c] using ih
    · simpa [eraseLine, c] using ih

/-- Read after write of a framebuffer line. -/
theorem lineOf_putLine (fb : List (Nat × List Byte)) (ly k : Nat) (px : List Byte) :
    lineOf (putLine fb ly px) k = if k = ly then px else lineOf fb k := by
  unfold putLine
  by_cases c : px = blankLine
  · simp [c, lineOf_eraseLine]
  · rw [if_neg c]
    by_cases h : k = ly
    · subst h; rw [if_pos rfl, lineOf_insertLine_self _ _ _ (mem_eraseLine_ne fb k)]
    · rw [lineOf_insertLine_of_ne _ _ h, lineOf_eraseLine, if_neg h, if_neg h]

/-- What `FB` reads after a line is rendered (R399, R407). -/
theorem fbByte_renderScanline (p : Params) (b : Bus) (ly i : Nat) :
    (renderScanline p b ly).fbByte i = if i / 640 = ly then (lineBytes p b ly).getD (i % 640) Memory.blank else b.fbByte i := by
  show (lineOf (putLine b.fb ly (lineBytes p b ly)) (i / 640)).getD (i % 640) Memory.blank = _
  rw [lineOf_putLine]
  split <;> rfl

/-- One listed line, and the rest from the next line on. -/
theorem linesFrom_cons (k j : Nat) (w : List Byte) (t : List (Nat × List Byte)) : linesFrom k ((j, w) :: t) = true ↔
    k ≤ j ∧ j < 144 ∧ w.length = 640 ∧ w ≠ blankLine ∧ linesFrom (j + 1) t = true := by
  simp only [linesFrom, Bool.and_eq_true, decide_eq_true_eq, and_assoc]
  rfl

theorem linesFrom_mono {fb : List (Nat × List Byte)} {k j : Nat} (h : k ≤ j) (hf : linesFrom j fb = true) :
    linesFrom k fb = true := by
  cases fb with
  | nil => rfl
  | cons e t =>
    obtain ⟨i, w⟩ := e
    rw [linesFrom_cons] at hf ⊢
    exact ⟨by omega, hf.2⟩

theorem linesFrom_eraseLine {fb : List (Nat × List Byte)} {k : Nat} (ly : Nat) (h : linesFrom k fb = true) :
    linesFrom k (eraseLine fb ly) = true := by
  induction fb generalizing k with
  | nil => rfl
  | cons e t ih =>
    obtain ⟨j, w⟩ := e
    rw [linesFrom_cons] at h
    obtain ⟨h1, h2, h3, h4, h5⟩ := h
    by_cases c : j = ly
    · rw [eraseLine, if_pos c]; exact linesFrom_mono (by omega) (ih h5)
    · rw [eraseLine, if_neg c, linesFrom_cons]; exact ⟨h1, h2, h3, h4, ih h5⟩

theorem linesFrom_insertLine {fb : List (Nat × List Byte)} {k ly : Nat} {px : List Byte} (hk : k ≤ ly) (hl : ly < 144)
    (hp : px.length = 640) (hb : px ≠ blankLine) (hn : ∀ e ∈ fb, e.1 ≠ ly) (h : linesFrom k fb = true) :
    linesFrom k (insertLine fb ly px) = true := by
  induction fb generalizing k with
  | nil => rw [insertLine, linesFrom_cons]; exact ⟨hk, hl, hp, hb, rfl⟩
  | cons e t ih =>
    obtain ⟨j, w⟩ := e
    simp only [List.mem_cons, forall_eq_or_imp] at hn
    rw [linesFrom_cons] at h
    obtain ⟨h1, h2, h3, h4, h5⟩ := h
    by_cases c : ly < j
    · rw [insertLine, if_pos c, linesFrom_cons, linesFrom_cons]
      exact ⟨hk, hl, hp, hb, c, h2, h3, h4, h5⟩
    · rw [insertLine, if_neg c, linesFrom_cons]
      exact ⟨h1, h2, h3, h4, ih (by have := hn.1; omega) hn.2 h5⟩

theorem linesFrom_putLine {fb : List (Nat × List Byte)} {k ly : Nat} {px : List Byte} (hk : k ≤ ly) (hl : ly < 144)
    (hp : px.length = 640) (h : linesFrom k fb = true) : linesFrom k (putLine fb ly px) = true := by
  unfold putLine
  by_cases c : px = blankLine
  · rw [if_pos c]; exact linesFrom_eraseLine ly h
  · rw [if_neg c]; exact linesFrom_insertLine hk hl hp c (mem_eraseLine_ne fb ly) (linesFrom_eraseLine ly h)

theorem Good.startDrawing {b : Bus} (h : b.Good) (p : Params) : (startDrawing p b).Good := by
  unfold Bus.startDrawing
  split
  · rename_i c
    have g := h.setStat ((b.ioAt Io.stat &&& 0xFC#8) ||| 3#8)
    exact { g with lines := linesFrom_putLine (Nat.zero_le _) c.1 (length_lineBytes p _ _) g.lines }
  · exact h

theorem Good.startHblank {b : Bus} (h : b.Good) : b.startHblank.Good := by
  unfold Bus.startHblank
  split
  · exact ((h.setStat _).statRequest 3).hblankChunk
  · exact h

/-- A pixel-pipeline step keeps a good state. -/
theorem Good.ppuStep {b : Bus} (h : b.Good) (p : Params) (c : Nat) : (ppuStep p b c).1.Good := by
  unfold Bus.ppuStep
  split
  · have g : ({ b with dot := b.dot + c } : Bus).Good := { h with }
    exact (g.boundary.startDrawing p).startHblank
  · exact h

/-- The line after a step of `c` cycles of the enabled pipeline (R381 to R386). -/
theorem line_ppuStep (p : Params) (b : Bus) (c : Nat) (hon : b.lcdcBit 7 = true) :
    (ppuStep p b c).1.line =
      let l := ({ b with dot := b.dot + c } : Bus).boundary.1.line
      let m := if l.1 < 144 ∧ l.2.1 = 2 ∧ 80 ≤ l.2.2 then 3 else l.2.1
      (l.1, if l.1 < 144 ∧ m = 3 ∧ 252 ≤ l.2.2 then 0 else m, l.2.2) := by
  unfold ppuStep
  rw [if_pos hon]
  dsimp only
  generalize ({ b with dot := b.dot + c } : Bus).boundary.1 = d
  have e := line_startDrawing p d
  simp only [line, Prod.mk.injEq] at e
  rw [line_startHblank, e.1, e.2.1, e.2.2]
  rfl

/-- A step of 4 to 24 cycles keeps the pixel pipeline's invariant (R390). -/
theorem ppuWf_ppuStep (p : Params) (b : Bus) (c : Nat) (h : b.ppuWf = true) (hc : c ≤ 24) (h4 : c % 4 = 0) :
    (ppuStep p b c).1.ppuWf = true := by
  by_cases hon : b.lcdcBit 7 = true
  · rw [ppuWf_iff] at h ⊢
    obtain ⟨h1, h2, h3, h5⟩ := h
    have e := line_ppuStep p b c hon
    rw [line_boundary] at e
    simp only [line, Prod.mk.injEq] at e
    obtain ⟨e1, e2, e3⟩ := e
    rw [e1, e2, e3]
    have l1 : ({ b with dot := b.dot + c } : Bus).lyNat = b.lyNat := rfl
    have l2 : ({ b with dot := b.dot + c } : Bus).ppuMode = b.ppuMode := rfl
    simp only [l1, l2, h5]
    generalize b.lyNat = ly at *
    generalize b.dot = dot at *
    clear e1 e2 e3 l1 l2 h5
    by_cases c1 : 456 ≤ dot + c
    · simp only [c1, if_true]
      refine ⟨by omega, by omega, by omega, ?_⟩
      split_ifs <;> omega
    · simp only [c1, if_false]
      refine ⟨by omega, by omega, by omega, ?_⟩
      split_ifs <;> omega
  · unfold ppuStep
    rw [if_neg hon]
    exact h

end Sys2Proof.Machine.Bus
end

