-- ==== Sys2Proof/Laws/State.lean ====
section
/-! SUPPORT. One lemma per field per update of the state, and the register file's reads after writes. -/

namespace Sys2Proof

/-! The register file (10_state.md R20 to R24). -/

@[simp] theorem Regs.get_set (r : Regs) (i j : Reg8) (v : Byte) : (r.set i v).get j = if j = i then v else r.get j := by
  cases i <;> cases j <;> rfl

@[simp] theorem Regs.set_f (r : Regs) (i : Reg8) (v : Byte) : (r.set i v).f = r.f := by cases i <;> rfl
@[simp] theorem Regs.set_sp (r : Regs) (i : Reg8) (v : Byte) : (r.set i v).sp = r.sp := by cases i <;> rfl
@[simp] theorem Regs.set_pc (r : Regs) (i : Reg8) (v : Byte) : (r.set i v).pc = r.pc := by cases i <;> rfl
@[simp] theorem Regs.setPair_f (r : Regs) (p : Pair) (v : Word) : (r.setPair p v).f = r.f := by cases p <;> rfl
@[simp] theorem Regs.setPair_a (r : Regs) (p : Pair) (v : Word) : (r.setPair p v).a = r.a := by cases p <;> rfl
@[simp] theorem Regs.setPair_pc (r : Regs) (p : Pair) (v : Word) : (r.setPair p v).pc = r.pc := by cases p <;> rfl
@[simp] theorem Regs.setStackPair_sp (r : Regs) (q : StackPair) (v : Word) : (r.setStackPair q v).sp = r.sp := by cases q <;> rfl
@[simp] theorem Regs.setStackPair_pc (r : Regs) (q : StackPair) (v : Word) : (r.setStackPair q v).pc = r.pc := by cases q <;> rfl

/-- A pair reads back exactly what was written to it (R23). -/
@[simp] theorem Regs.pair_setPair (r : Regs) (p : Pair) (v : Word) : (r.setPair p v).pair p = v := by
  cases p <;> first | rfl | exact Machine.mkWord_hiByte_loByte v

/-- No register write of the selector, the pairs or the stack pairs breaks `F[3:0] = 0` (R28). -/
theorem Regs.setStackPair_low (r : Regs) (q : StackPair) (v : Word) (h : r.f &&& 0x0F#8 = 0#8) :
    (r.setStackPair q v).f &&& 0x0F#8 = 0#8 := by
  cases q <;> first | exact h | exact Machine.masked_low _

end Sys2Proof

namespace Sys2Proof.Machine.State

@[simp] theorem readMem_fst (s : State) (a : Word) : (s.readMem a).1 = s.bus.peek a := rfl
@[simp] theorem readMem_regs (s : State) (a : Word) : (s.readMem a).2.regs = s.regs := rfl
@[simp] theorem readMem_ime (s : State) (a : Word) : (s.readMem a).2.ime = s.ime := rfl
@[simp] theorem readMem_imeScheduled (s : State) (a : Word) : (s.readMem a).2.imeScheduled = s.imeScheduled := rfl
@[simp] theorem readMem_halted (s : State) (a : Word) : (s.readMem a).2.halted = s.halted := rfl
@[simp] theorem readMem_locked (s : State) (a : Word) : (s.readMem a).2.locked = s.locked := rfl
@[simp] theorem readMem_bus (s : State) (a : Word) : (s.readMem a).2.bus = s.bus.afterRead a := rfl
@[simp] theorem readMem_cycles (s : State) (a : Word) : (s.readMem a).2.cycles = s.cycles := rfl
@[simp] theorem readMem_stepCost (s : State) (a : Word) : (s.readMem a).2.stepCost = s.stepCost := rfl
@[simp] theorem readMem_frameReady (s : State) (a : Word) : (s.readMem a).2.frameReady = s.frameReady := rfl
@[simp] theorem readMem_running (s : State) (a : Word) : (s.readMem a).2.running = s.running := rfl
@[simp] theorem readMem_params (s : State) (a : Word) : (s.readMem a).2.params = s.params := rfl

@[simp] theorem setFlags_regs (s : State) (fl : Flags) : (s.setFlags fl).regs = { s.regs with f := fl.toByte } := rfl
@[simp] theorem setFlags_ime (s : State) (fl : Flags) : (s.setFlags fl).ime = s.ime := rfl
@[simp] theorem setFlags_imeScheduled (s : State) (fl : Flags) : (s.setFlags fl).imeScheduled = s.imeScheduled := rfl
@[simp] theorem setFlags_halted (s : State) (fl : Flags) : (s.setFlags fl).halted = s.halted := rfl
@[simp] theorem setFlags_locked (s : State) (fl : Flags) : (s.setFlags fl).locked = s.locked := rfl
@[simp] theorem setFlags_bus (s : State) (fl : Flags) : (s.setFlags fl).bus = s.bus := rfl
@[simp] theorem setFlags_cycles (s : State) (fl : Flags) : (s.setFlags fl).cycles = s.cycles := rfl
@[simp] theorem setFlags_stepCost (s : State) (fl : Flags) : (s.setFlags fl).stepCost = s.stepCost := rfl
@[simp] theorem setFlags_frameReady (s : State) (fl : Flags) : (s.setFlags fl).frameReady = s.frameReady := rfl
@[simp] theorem setFlags_running (s : State) (fl : Flags) : (s.setFlags fl).running = s.running := rfl
@[simp] theorem setFlags_params (s : State) (fl : Flags) : (s.setFlags fl).params = s.params := rfl

@[simp] theorem setReg_regs (s : State) (i : Reg8) (v : Byte) : (s.setReg i v).regs = s.regs.set i v := rfl
@[simp] theorem setReg_ime (s : State) (i : Reg8) (v : Byte) : (s.setReg i v).ime = s.ime := rfl
@[simp] theorem setReg_imeScheduled (s : State) (i : Reg8) (v : Byte) : (s.setReg i v).imeScheduled = s.imeScheduled := rfl
@[simp] theorem setReg_halted (s : State) (i : Reg8) (v : Byte) : (s.setReg i v).halted = s.halted := rfl
@[simp] theorem setReg_locked (s : State) (i : Reg8) (v : Byte) : (s.setReg i v).locked = s.locked := rfl
@[simp] theorem setReg_bus (s : State) (i : Reg8) (v : Byte) : (s.setReg i v).bus = s.bus := rfl
@[simp] theorem setReg_cycles (s : State) (i : Reg8) (v : Byte) : (s.setReg i v).cycles = s.cycles := rfl
@[simp] theorem setReg_stepCost (s : State) (i : Reg8) (v : Byte) : (s.setReg i v).stepCost = s.stepCost := rfl
@[simp] theorem setReg_frameReady (s : State) (i : Reg8) (v : Byte) : (s.setReg i v).frameReady = s.frameReady := rfl
@[simp] theorem setReg_running (s : State) (i : Reg8) (v : Byte) : (s.setReg i v).running = s.running := rfl
@[simp] theorem setReg_params (s : State) (i : Reg8) (v : Byte) : (s.setReg i v).params = s.params := rfl

@[simp] theorem setPair_regs (s : State) (p : Pair) (v : Word) : (s.setPair p v).regs = s.regs.setPair p v := rfl
@[simp] theorem setPair_ime (s : State) (p : Pair) (v : Word) : (s.setPair p v).ime = s.ime := rfl
@[simp] theorem setPair_imeScheduled (s : State) (p : Pair) (v : Word) : (s.setPair p v).imeScheduled = s.imeScheduled := rfl
@[simp] theorem setPair_halted (s : State) (p : Pair) (v : Word) : (s.setPair p v).halted = s.halted := rfl
@[simp] theorem setPair_locked (s : State) (p : Pair) (v : Word) : (s.setPair p v).locked = s.locked := rfl
@[simp] theorem setPair_bus (s : State) (p : Pair) (v : Word) : (s.setPair p v).bus = s.bus := rfl
@[simp] theorem setPair_cycles (s : State) (p : Pair) (v : Word) : (s.setPair p v).cycles = s.cycles := rfl
@[simp] theorem setPair_stepCost (s : State) (p : Pair) (v : Word) : (s.setPair p v).stepCost = s.stepCost := rfl
@[simp] theorem setPair_frameReady (s : State) (p : Pair) (v : Word) : (s.setPair p v).frameReady = s.frameReady := rfl
@[simp] theorem setPair_running (s : State) (p : Pair) (v : Word) : (s.setPair p v).running = s.running := rfl
@[simp] theorem setPair_params (s : State) (p : Pair) (v : Word) : (s.setPair p v).params = s.params := rfl

@[simp] theorem setStackPair_regs (s : State) (q : StackPair) (v : Word) : (s.setStackPair q v).regs = s.regs.setStackPair q v := rfl
@[simp] theorem setStackPair_ime (s : State) (q : StackPair) (v : Word) : (s.setStackPair q v).ime = s.ime := rfl
@[simp] theorem setStackPair_imeScheduled (s : State) (q : StackPair) (v : Word) : (s.setStackPair q v).imeScheduled = s.imeScheduled := rfl
@[simp] theorem setStackPair_halted (s : State) (q : StackPair) (v : Word) : (s.setStackPair q v).halted = s.halted := rfl
@[simp] theorem setStackPair_locked (s : State) (q : StackPair) (v : Word) : (s.setStackPair q v).locked = s.locked := rfl
@[simp] theorem setStackPair_bus (s : State) (q : StackPair) (v : Word) : (s.setStackPair q v).bus = s.bus := rfl
@[simp] theorem setStackPair_cycles (s : State) (q : StackPair) (v : Word) : (s.setStackPair q v).cycles = s.cycles := rfl
@[simp] theorem setStackPair_stepCost (s : State) (q : StackPair) (v : Word) : (s.setStackPair q v).stepCost = s.stepCost := rfl
@[simp] theorem setStackPair_frameReady (s : State) (q : StackPair) (v : Word) : (s.setStackPair q v).frameReady = s.frameReady := rfl
@[simp] theorem setStackPair_running (s : State) (q : StackPair) (v : Word) : (s.setStackPair q v).running = s.running := rfl
@[simp] theorem setStackPair_params (s : State) (q : StackPair) (v : Word) : (s.setStackPair q v).params = s.params := rfl

@[simp] theorem setSp_regs (s : State) (v : Word) : (s.setSp v).regs = { s.regs with sp := v } := rfl
@[simp] theorem setSp_ime (s : State) (v : Word) : (s.setSp v).ime = s.ime := rfl
@[simp] theorem setSp_imeScheduled (s : State) (v : Word) : (s.setSp v).imeScheduled = s.imeScheduled := rfl
@[simp] theorem setSp_halted (s : State) (v : Word) : (s.setSp v).halted = s.halted := rfl
@[simp] theorem setSp_locked (s : State) (v : Word) : (s.setSp v).locked = s.locked := rfl
@[simp] theorem setSp_bus (s : State) (v : Word) : (s.setSp v).bus = s.bus := rfl
@[simp] theorem setSp_cycles (s : State) (v : Word) : (s.setSp v).cycles = s.cycles := rfl
@[simp] theorem setSp_stepCost (s : State) (v : Word) : (s.setSp v).stepCost = s.stepCost := rfl
@[simp] theorem setSp_frameReady (s : State) (v : Word) : (s.setSp v).frameReady = s.frameReady := rfl
@[simp] theorem setSp_running (s : State) (v : Word) : (s.setSp v).running = s.running := rfl
@[simp] theorem setSp_params (s : State) (v : Word) : (s.setSp v).params = s.params := rfl

@[simp] theorem setPc_regs (s : State) (v : Word) : (s.setPc v).regs = { s.regs with pc := v } := rfl
@[simp] theorem setPc_ime (s : State) (v : Word) : (s.setPc v).ime = s.ime := rfl
@[simp] theorem setPc_imeScheduled (s : State) (v : Word) : (s.setPc v).imeScheduled = s.imeScheduled := rfl
@[simp] theorem setPc_halted (s : State) (v : Word) : (s.setPc v).halted = s.halted := rfl
@[simp] theorem setPc_locked (s : State) (v : Word) : (s.setPc v).locked = s.locked := rfl
@[simp] theorem setPc_bus (s : State) (v : Word) : (s.setPc v).bus = s.bus := rfl
@[simp] theorem setPc_cycles (s : State) (v : Word) : (s.setPc v).cycles = s.cycles := rfl
@[simp] theorem setPc_stepCost (s : State) (v : Word) : (s.setPc v).stepCost = s.stepCost := rfl
@[simp] theorem setPc_frameReady (s : State) (v : Word) : (s.setPc v).frameReady = s.frameReady := rfl
@[simp] theorem setPc_running (s : State) (v : Word) : (s.setPc v).running = s.running := rfl
@[simp] theorem setPc_params (s : State) (v : Word) : (s.setPc v).params = s.params := rfl

@[simp] theorem writeMem_regs (s : State) (a : Word) (v : Byte) : (s.writeMem a v).regs = s.regs := rfl
@[simp] theorem writeMem_ime (s : State) (a : Word) (v : Byte) : (s.writeMem a v).ime = s.ime := rfl
@[simp] theorem writeMem_imeScheduled (s : State) (a : Word) (v : Byte) : (s.writeMem a v).imeScheduled = s.imeScheduled := rfl
@[simp] theorem writeMem_halted (s : State) (a : Word) (v : Byte) : (s.writeMem a v).halted = s.halted := rfl
@[simp] theorem writeMem_locked (s : State) (a : Word) (v : Byte) : (s.writeMem a v).locked = s.locked := rfl
@[simp] theorem writeMem_bus (s : State) (a : Word) (v : Byte) : (s.writeMem a v).bus = s.bus.write a v := rfl
@[simp] theorem writeMem_cycles (s : State) (a : Word) (v : Byte) : (s.writeMem a v).cycles = s.cycles := rfl
@[simp] theorem writeMem_stepCost (s : State) (a : Word) (v : Byte) : (s.writeMem a v).stepCost = s.stepCost := rfl
@[simp] theorem writeMem_frameReady (s : State) (a : Word) (v : Byte) : (s.writeMem a v).frameReady = s.frameReady := rfl
@[simp] theorem writeMem_running (s : State) (a : Word) (v : Byte) : (s.writeMem a v).running = s.running := rfl
@[simp] theorem writeMem_params (s : State) (a : Word) (v : Byte) : (s.writeMem a v).params = s.params := rfl

@[simp] theorem setIfl_regs (s : State) (v : Byte) : (s.setIfl v).regs = s.regs := rfl
@[simp] theorem setIfl_ime (s : State) (v : Byte) : (s.setIfl v).ime = s.ime := rfl
@[simp] theorem setIfl_imeScheduled (s : State) (v : Byte) : (s.setIfl v).imeScheduled = s.imeScheduled := rfl
@[simp] theorem setIfl_halted (s : State) (v : Byte) : (s.setIfl v).halted = s.halted := rfl
@[simp] theorem setIfl_locked (s : State) (v : Byte) : (s.setIfl v).locked = s.locked := rfl
@[simp] theorem setIfl_bus (s : State) (v : Byte) : (s.setIfl v).bus = s.bus.setIo Io.ifl v := rfl
@[simp] theorem setIfl_cycles (s : State) (v : Byte) : (s.setIfl v).cycles = s.cycles := rfl
@[simp] theorem setIfl_stepCost (s : State) (v : Byte) : (s.setIfl v).stepCost = s.stepCost := rfl
@[simp] theorem setIfl_frameReady (s : State) (v : Byte) : (s.setIfl v).frameReady = s.frameReady := rfl
@[simp] theorem setIfl_running (s : State) (v : Byte) : (s.setIfl v).running = s.running := rfl
@[simp] theorem setIfl_params (s : State) (v : Byte) : (s.setIfl v).params = s.params := rfl

@[simp] theorem discardRequests_regs (s : State) : (s.discardRequests).regs = s.regs := rfl
@[simp] theorem discardRequests_ime (s : State) : (s.discardRequests).ime = s.ime := rfl
@[simp] theorem discardRequests_imeScheduled (s : State) : (s.discardRequests).imeScheduled = s.imeScheduled := rfl
@[simp] theorem discardRequests_halted (s : State) : (s.discardRequests).halted = s.halted := rfl
@[simp] theorem discardRequests_locked (s : State) : (s.discardRequests).locked = s.locked := rfl
@[simp] theorem discardRequests_bus (s : State) : (s.discardRequests).bus = s.bus.setIo Io.ifl 0x00#8 := rfl
@[simp] theorem discardRequests_cycles (s : State) : (s.discardRequests).cycles = s.cycles := rfl
@[simp] theorem discardRequests_stepCost (s : State) : (s.discardRequests).stepCost = s.stepCost := rfl
@[simp] theorem discardRequests_frameReady (s : State) : (s.discardRequests).frameReady = s.frameReady := rfl
@[simp] theorem discardRequests_running (s : State) : (s.discardRequests).running = s.running := rfl
@[simp] theorem discardRequests_params (s : State) : (s.discardRequests).params = s.params := rfl

@[simp] theorem haltedStep_regs (s : State) : (s.haltedStep).regs = s.regs := rfl
@[simp] theorem haltedStep_ime (s : State) : (s.haltedStep).ime = s.ime := rfl
@[simp] theorem haltedStep_imeScheduled (s : State) : (s.haltedStep).imeScheduled = s.imeScheduled := rfl
@[simp] theorem haltedStep_halted (s : State) : (s.haltedStep).halted = !s.pending := rfl
@[simp] theorem haltedStep_locked (s : State) : (s.haltedStep).locked = s.locked := rfl
@[simp] theorem haltedStep_bus (s : State) : (s.haltedStep).bus = s.bus := rfl
@[simp] theorem haltedStep_cycles (s : State) : (s.haltedStep).cycles = s.cycles := rfl
@[simp] theorem haltedStep_stepCost (s : State) : (s.haltedStep).stepCost = 4 := rfl
@[simp] theorem haltedStep_frameReady (s : State) : (s.haltedStep).frameReady = s.frameReady := rfl
@[simp] theorem haltedStep_running (s : State) : (s.haltedStep).running = s.running := rfl
@[simp] theorem haltedStep_params (s : State) : (s.haltedStep).params = s.params := rfl

@[simp] theorem commitIme_regs (s : State) : s.commitIme.regs = s.regs := by unfold commitIme; split <;> rfl
@[simp] theorem commitIme_halted (s : State) : s.commitIme.halted = s.halted := by unfold commitIme; split <;> rfl
@[simp] theorem commitIme_locked (s : State) : s.commitIme.locked = s.locked := by unfold commitIme; split <;> rfl
@[simp] theorem commitIme_bus (s : State) : s.commitIme.bus = s.bus := by unfold commitIme; split <;> rfl
@[simp] theorem commitIme_cycles (s : State) : s.commitIme.cycles = s.cycles := by unfold commitIme; split <;> rfl
@[simp] theorem commitIme_stepCost (s : State) : s.commitIme.stepCost = s.stepCost := by unfold commitIme; split <;> rfl
@[simp] theorem commitIme_frameReady (s : State) : s.commitIme.frameReady = s.frameReady := by unfold commitIme; split <;> rfl
@[simp] theorem commitIme_running (s : State) : s.commitIme.running = s.running := by unfold commitIme; split <;> rfl
@[simp] theorem commitIme_params (s : State) : s.commitIme.params = s.params := by unfold commitIme; split <;> rfl

@[simp] theorem commitIme_ime (s : State) : s.commitIme.ime = (s.ime || s.imeScheduled) := by
  unfold commitIme; cases h : s.imeScheduled <;> simp
@[simp] theorem commitIme_imeScheduled (s : State) : s.commitIme.imeScheduled = false := by
  unfold commitIme; cases h : s.imeScheduled <;> simp [h]

end Sys2Proof.Machine.State
end

