-- ==== Sys2Proof/Laws/Exec.lean ====
section
/-! SUPPORT. Everything a meaning can do, said once: `exec` answers a next state that `Effect` describes, or the one fault. The
case split is `Laws/ExecCases.lean`. -/

namespace Sys2Proof.Machine

/-- A bus reached by bus reads and writes. -/
inductive Bus.Reaches : Bus → Bus → Prop where
  | refl (b : Bus) : Bus.Reaches b b
  | read {b c : Bus} (a : Word) : Bus.Reaches b c → Bus.Reaches b (c.afterRead a)
  | write {b c : Bus} (a : Word) (v : Byte) : Bus.Reaches b c → Bus.Reaches b (c.write a v)

theorem Bus.Good.reaches {b c : Bus} (h : b.Good) (r : b.Reaches c) : c.Good := by
  induction r with
  | refl => exact h
  | read a _ ih => exact ih.afterRead a
  | write a v _ ih => exact ih.write a v

theorem Bus.Reaches.kept {b c : Bus} (r : b.Reaches c) : c.kept = b.kept := by
  induction r with
  | refl => rfl
  | read a _ ih => rw [kept_afterRead, ih]
  | write a v _ ih => rw [kept_write, ih]

theorem Bus.Reaches.ppuView {b c : Bus} (r : b.Reaches c) : c.ppuView = b.ppuView := by
  induction r with
  | refl => rfl
  | read a _ ih => rw [ppuView_afterRead, ih]
  | write a v _ ih => rw [ppuView_write, ih]

theorem Bus.Reaches.trans {b c d : Bus} (r : b.Reaches c) (q : c.Reaches d) : b.Reaches d := by
  induction q with
  | refl => exact r
  | read a _ ih => exact ih.read a
  | write a v _ ih => exact ih.write a v

/-- A cost the CPU step can return (60_exceptions.md R331). -/
abbrev IsCost (n : Nat) : Prop := n = 4 ∨ n = 8 ∨ n = 12 ∨ n = 16 ∨ n = 20 ∨ n = 24

/-- What changes between a state and the one after it, cost apart: the bus by reads and writes, `F` with its low nibble kept
zero, and nothing of `locked`, `cycles`, `frameReady`, `running`, `params`. -/
structure Touches (s t : State) : Prop where
  bus : s.bus.Reaches t.bus
  flags : s.regs.f &&& 0x0F#8 = 0#8 → t.regs.f &&& 0x0F#8 = 0#8
  locked : t.locked = s.locked
  cycles : t.cycles = s.cycles
  frameReady : t.frameReady = s.frameReady
  running : t.running = s.running
  params : t.params = s.params

theorem Touches.refl (s : State) : Touches s s := ⟨.refl _, id, rfl, rfl, rfl, rfl, rfl⟩

theorem Touches.trans {s t u : State} (h : Touches s t) (g : Touches t u) : Touches s u :=
  ⟨h.bus.trans g.bus, g.flags ∘ h.flags, g.locked.trans h.locked, g.cycles.trans h.cycles, g.frameReady.trans h.frameReady,
    g.running.trans h.running, g.params.trans h.params⟩

section updates

variable {s t : State} (h : Touches s t)
include h

theorem Touches.setFlags (fl : Flags) : Touches s (t.setFlags fl) := { h with flags := fun _ => toByte_low fl }
theorem Touches.setReg (i : Reg8) (v : Byte) : Touches s (t.setReg i v) :=
  { h with flags := fun g => (congrArg (fun f => f &&& 0x0F#8) (Regs.set_f t.regs i v)).trans (h.flags g) }
theorem Touches.setPair (p : Pair) (v : Word) : Touches s (t.setPair p v) :=
  { h with flags := fun g => (congrArg (fun f => f &&& 0x0F#8) (Regs.setPair_f t.regs p v)).trans (h.flags g) }
theorem Touches.setStackPair (q : StackPair) (v : Word) : Touches s (t.setStackPair q v) :=
  { h with flags := fun g => Regs.setStackPair_low t.regs q v (h.flags g) }
theorem Touches.setSp (v : Word) : Touches s (t.setSp v) := { h with }
theorem Touches.setPc (v : Word) : Touches s (t.setPc v) := { h with }
theorem Touches.readMem (a : Word) : Touches s (t.readMem a).2 := { h with bus := h.bus.read a }
theorem Touches.writeMem (a : Word) (v : Byte) : Touches s (t.writeMem a v) := { h with bus := h.bus.write a v }
theorem Touches.readOperand (o : Operand8) : Touches s (t.readOperand o).2 := by
  cases o
  · exact h
  · exact h.readMem _
theorem Touches.writeOperand (o : Operand8) (v : Byte) : Touches s (t.writeOperand o v) := by
  cases o
  · exact h.setReg _ v
  · exact h.writeMem _ v
theorem Touches.push16 (v : Word) : Touches s (t.push16 v) := ((h.setSp _).writeMem _ _ |>.setSp _).writeMem _ _
theorem Touches.pop16 : Touches s t.pop16.2 := ((h.readMem _).setSp _ |>.readMem _).setSp _
theorem Touches.accumulate (op : AluOp) (v : Byte) : Touches s (Sys2Proof.Machine.accumulate op v t) := (h.setReg _ _).setFlags _
theorem Touches.callTo (a : Word) : Touches s (Sys2Proof.Machine.callTo a t) := (h.push16 _).setPc _
theorem Touches.returnTo : Touches s (Sys2Proof.Machine.returnTo t) := h.pop16.setPc _

end updates

/-- What a meaning answers: a next state of a legal cost, or the fault of an illegal opcode. -/
def Does (s : State) (r : Result) : Prop :=
  (∃ t, r = .next t ∧ Touches s t ∧ IsCost t.stepCost) ∨
    ∃ op, (op : Byte) ∈ [0xD3#8, 0xDB#8, 0xDD#8, 0xE3#8, 0xE4#8, 0xEB#8, 0xEC#8, 0xED#8, 0xF4#8, 0xFC#8, 0xFD#8]
      ∧ r = .fault (.illegalOpcode op { s with locked := true })

theorem does_finish {s t : State} {n : Nat} (h : Touches s t) (hn : IsCost n) : Does s (finish n t) :=
  .inl ⟨{ t with stepCost := n }, rfl, { h with }, hn⟩

theorem does_if {s : State} {c : Prop} [Decidable c] {x y : Result} (h : Does s x) (g : Does s y) : Does s (if c then x else y) := by
  split
  exacts [h, g]

theorem isCost_operand (o : Operand8) {a b : Nat} (ha : IsCost a) (hb : IsCost b) : IsCost (operandCost o a b) := by
  cases o
  exacts [ha, hb]

/-! One lemma per shared operation. -/

theorem does_loadRegReg (s : State) (dst src : Reg8) : Does s (loadRegReg dst src s) :=
  does_finish ((Touches.refl s).setReg _ _) (by decide)
theorem does_loadRegImm (s : State) (dst : Reg8) (n : Byte) : Does s (loadRegImm dst n s) :=
  does_finish ((Touches.refl s).setReg _ _) (by decide)
theorem does_loadRegMem (s : State) (dst : Reg8) : Does s (loadRegMem dst s) :=
  does_finish (((Touches.refl s).readMem _).setReg _ _) (by decide)
theorem does_storeMemReg (s : State) (src : Reg8) : Does s (storeMemReg src s) :=
  does_finish ((Touches.refl s).writeMem _ _) (by decide)
theorem does_storeMemImm (s : State) (n : Byte) : Does s (storeMemImm n s) :=
  does_finish ((Touches.refl s).writeMem _ _) (by decide)
theorem does_loadA (s : State) {n : Nat} (a : Word) (hn : IsCost n) : Does s (loadA n a s) :=
  does_finish (((Touches.refl s).readMem _).setReg _ _) hn
theorem does_storeA (s : State) {n : Nat} (a : Word) (hn : IsCost n) : Does s (storeA n a s) :=
  does_finish ((Touches.refl s).writeMem _ _) hn
theorem does_storeAStep (s : State) (d : Word) : Does s (storeAStep d s) :=
  does_finish (((Touches.refl s).writeMem _ _).setPair _ _) (by decide)
theorem does_loadAStep (s : State) (d : Word) : Does s (loadAStep d s) :=
  does_finish ((((Touches.refl s).readMem _).setReg _ _).setPair _ _) (by decide)
theorem does_loadPairImm (s : State) (p : Pair) (v : Word) : Does s (loadPairImm p v s) :=
  does_finish ((Touches.refl s).setPair _ _) (by decide)
theorem does_storeSp (s : State) (v : Word) : Does s (storeSp v s) :=
  does_finish (((Touches.refl s).writeMem _ _).writeMem _ _) (by decide)
theorem does_loadSpHl (s : State) : Does s (loadSpHl s) :=
  does_finish ((Touches.refl s).setSp _) (by decide)
theorem does_loadHlSp (s : State) (e : Byte) : Does s (loadHlSp e s) :=
  does_finish (((Touches.refl s).setPair _ _).setFlags _) (by decide)
theorem does_pushForm (s : State) (q : StackPair) : Does s (pushForm q s) :=
  does_finish ((Touches.refl s).push16 _) (by decide)
theorem does_popForm (s : State) (q : StackPair) : Does s (popForm q s) :=
  does_finish ((Touches.refl s).pop16.setStackPair _ _) (by decide)
theorem does_aluForm (s : State) (op : AluOp) (o : Operand8) : Does s (aluForm op o s) :=
  does_finish (((Touches.refl s).readOperand o).accumulate _ _) (isCost_operand o (by decide) (by decide))
theorem does_aluImmForm (s : State) (op : AluOp) (n : Byte) : Does s (aluImmForm op n s) :=
  does_finish ((Touches.refl s).accumulate _ _) (by decide)
theorem does_incForm (s : State) (o : Operand8) : Does s (incForm o s) :=
  does_finish ((((Touches.refl s).readOperand o).writeOperand o _).setFlags _) (isCost_operand o (by decide) (by decide))
theorem does_decForm (s : State) (o : Operand8) : Does s (decForm o s) :=
  does_finish ((((Touches.refl s).readOperand o).writeOperand o _).setFlags _) (isCost_operand o (by decide) (by decide))
theorem does_daaForm (s : State) : Does s (daaForm s) :=
  does_finish (((Touches.refl s).setReg _ _).setFlags _) (by decide)
theorem does_cplForm (s : State) : Does s (cplForm s) :=
  does_finish (((Touches.refl s).setReg _ _).setFlags _) (by decide)
theorem does_scfForm (s : State) : Does s (scfForm s) :=
  does_finish ((Touches.refl s).setFlags _) (by decide)
theorem does_ccfForm (s : State) : Does s (ccfForm s) :=
  does_finish ((Touches.refl s).setFlags _) (by decide)
theorem does_addHlForm (s : State) (p : Pair) : Does s (addHlForm p s) :=
  does_finish (((Touches.refl s).setPair _ _).setFlags _) (by decide)
theorem does_incPairForm (s : State) (p : Pair) : Does s (incPairForm p s) :=
  does_finish ((Touches.refl s).setPair _ _) (by decide)
theorem does_decPairForm (s : State) (p : Pair) : Does s (decPairForm p s) :=
  does_finish ((Touches.refl s).setPair _ _) (by decide)
theorem does_addSpForm (s : State) (e : Byte) : Does s (addSpForm e s) :=
  does_finish (((Touches.refl s).setSp _).setFlags _) (by decide)
theorem does_rotateA (s : State) (op : RotOp) : Does s (rotateA op s) :=
  does_finish (((Touches.refl s).setReg _ _).setFlags _) (by decide)
theorem does_rotateForm (s : State) (op : RotOp) (o : Operand8) : Does s (rotateForm op o s) :=
  does_finish ((((Touches.refl s).readOperand o).writeOperand o _).setFlags _) (isCost_operand o (by decide) (by decide))
theorem does_bitForm (s : State) (b : Nat) (o : Operand8) : Does s (bitForm b o s) :=
  does_finish (((Touches.refl s).readOperand o).setFlags _) (isCost_operand o (by decide) (by decide))
theorem does_resForm (s : State) (b : Nat) (o : Operand8) : Does s (resForm b o s) :=
  does_finish (((Touches.refl s).readOperand o).writeOperand o _) (isCost_operand o (by decide) (by decide))
theorem does_setForm (s : State) (b : Nat) (o : Operand8) : Does s (setForm b o s) :=
  does_finish (((Touches.refl s).readOperand o).writeOperand o _) (isCost_operand o (by decide) (by decide))
theorem does_jumpTo (s : State) {n : Nat} (a : Word) (hn : IsCost n) : Does s (jumpTo n a s) :=
  does_finish ((Touches.refl s).setPc _) hn
theorem does_jumpIf (s : State) (cc : Cond) (a : Word) : Does s (jumpIf cc a s) :=
  does_if (does_finish ((Touches.refl s).setPc _) (by decide)) (does_finish (Touches.refl s) (by decide))
theorem does_jumpRelative (s : State) (e : Byte) : Does s (jumpRelative e s) :=
  does_finish ((Touches.refl s).setPc _) (by decide)
theorem does_jumpRelativeIf (s : State) (cc : Cond) (e : Byte) : Does s (jumpRelativeIf cc e s) :=
  does_if (does_finish ((Touches.refl s).setPc _) (by decide)) (does_finish (Touches.refl s) (by decide))
theorem does_callForm (s : State) (a : Word) : Does s (callForm a s) :=
  does_finish ((Touches.refl s).callTo _) (by decide)
theorem does_callIf (s : State) (cc : Cond) (a : Word) : Does s (callIf cc a s) :=
  does_if (does_finish ((Touches.refl s).callTo _) (by decide)) (does_finish (Touches.refl s) (by decide))
theorem does_retForm (s : State) : Does s (retForm s) :=
  does_finish (Touches.refl s).returnTo (by decide)
theorem does_retIf (s : State) (cc : Cond) : Does s (retIf cc s) :=
  does_if (does_finish (Touches.refl s).returnTo (by decide)) (does_finish (Touches.refl s) (by decide))
theorem does_retiForm (s : State) : Does s (retiForm s) :=
  does_finish { (Touches.refl s).returnTo with } (by decide)
theorem does_restart (s : State) (a : Word) : Does s (restart a s) :=
  does_finish ((Touches.refl s).callTo _) (by decide)
theorem does_nopForm (s : State) : Does s (nopForm s) :=
  does_finish (Touches.refl s) (by decide)
theorem does_stopForm (s : State) : Does s (stopForm s) :=
  does_finish (Touches.refl s) (by decide)
theorem does_haltForm (s : State) : Does s (haltForm s) :=
  does_finish { Touches.refl s with } (by decide)
theorem does_diForm (s : State) : Does s (diForm s) :=
  does_finish { Touches.refl s with } (by decide)
theorem does_eiForm (s : State) : Does s (eiForm s) :=
  does_finish { Touches.refl s with } (by decide)
theorem does_raiseIllegal (s : State) (op : Byte)
    (h : op ∈ [0xD3#8, 0xDB#8, 0xDD#8, 0xE3#8, 0xE4#8, 0xEB#8, 0xEC#8, 0xED#8, 0xF4#8, 0xFC#8, 0xFD#8]) :
    Does s (raiseIllegal op s) := .inr ⟨op, h, rfl⟩
theorem does_prefixForm (s : State) (op2 : Byte) : Does s (prefixForm op2 s) := by
  unfold prefixForm
  split
  exacts [does_rotateForm s _ _, does_bitForm s _ _, does_resForm s _ _, does_setForm s _ _]

end Sys2Proof.Machine
end

