-- ==== Sys2Proof/Laws/ExecCases.lean ====
section
/-! SUPPORT. The case split of `exec`: every meaning does what `Does` says. -/

namespace Sys2Proof.Machine

theorem exec_does (i : Instr) (s : State) : Does s (exec i s) :=
  match i with
  | .ldBC_d16 _ => does_loadPairImm s _ _
  | .ldB_d8 _ => does_loadRegImm s _ _
  | .ldMemA16_SP _ => does_storeSp s _
  | .ldC_d8 _ => does_loadRegImm s _ _
  | .stop _ => does_stopForm s
  | .ldDE_d16 _ => does_loadPairImm s _ _
  | .ldD_d8 _ => does_loadRegImm s _ _
  | .jr _ => does_jumpRelative s _
  | .ldE_d8 _ => does_loadRegImm s _ _
  | .jrNZ _ => does_jumpRelativeIf s _ _
  | .ldHL_d16 _ => does_loadPairImm s _ _
  | .ldH_d8 _ => does_loadRegImm s _ _
  | .jrZ _ => does_jumpRelativeIf s _ _
  | .ldL_d8 _ => does_loadRegImm s _ _
  | .jrNC _ => does_jumpRelativeIf s _ _
  | .ldSP_d16 _ => does_loadPairImm s _ _
  | .ldMemHL_d8 _ => does_storeMemImm s _
  | .jrC _ => does_jumpRelativeIf s _ _
  | .ldA_d8 _ => does_loadRegImm s _ _
  | .jpNZ _ => does_jumpIf s _ _
  | .jp _ => does_jumpTo s _ (by decide)
  | .callNZ _ => does_callIf s _ _
  | .addA_d8 _ => does_aluImmForm s _ _
  | .jpZ _ => does_jumpIf s _ _
  | .prefixCB _ => does_prefixForm s _
  | .callZ _ => does_callIf s _ _
  | .call _ => does_callForm s _
  | .adcA_d8 _ => does_aluImmForm s _ _
  | .jpNC _ => does_jumpIf s _ _
  | .callNC _ => does_callIf s _ _
  | .subA_d8 _ => does_aluImmForm s _ _
  | .jpC _ => does_jumpIf s _ _
  | .callC _ => does_callIf s _ _
  | .sbcA_d8 _ => does_aluImmForm s _ _
  | .ldhMemA8_A _ => does_storeA s _ (by decide)
  | .andA_d8 _ => does_aluImmForm s _ _
  | .addSP_r8 _ => does_addSpForm s _
  | .ldMemA16_A _ => does_storeA s _ (by decide)
  | .xorA_d8 _ => does_aluImmForm s _ _
  | .ldhA_MemA8 _ => does_loadA s _ (by decide)
  | .orA_d8 _ => does_aluImmForm s _ _
  | .ldHL_SPr8 _ => does_loadHlSp s _
  | .ldA_MemA16 _ => does_loadA s _ (by decide)
  | .cpA_d8 _ => does_aluImmForm s _ _
  | .nop => does_nopForm s
  | .ldMemBC_A => does_storeA s _ (by decide)
  | .incBC => does_incPairForm s _
  | .incB => does_incForm s _
  | .decB => does_decForm s _
  | .rlca => does_rotateA s _
  | .addHL_BC => does_addHlForm s _
  | .ldA_MemBC => does_loadA s _ (by decide)
  | .decBC => does_decPairForm s _
  | .incC => does_incForm s _
  | .decC => does_decForm s _
  | .rrca => does_rotateA s _
  | .ldMemDE_A => does_storeA s _ (by decide)
  | .incDE => does_incPairForm s _
  | .incD => does_incForm s _
  | .decD => does_decForm s _
  | .rla => does_rotateA s _
  | .addHL_DE => does_addHlForm s _
  | .ldA_MemDE => does_loadA s _ (by decide)
  | .decDE => does_decPairForm s _
  | .incE => does_incForm s _
  | .decE => does_decForm s _
  | .rra => does_rotateA s _
  | .ldMemHLI_A => does_storeAStep s _
  | .incHL => does_incPairForm s _
  | .incH => does_incForm s _
  | .decH => does_decForm s _
  | .daa => does_daaForm s
  | .addHL_HL => does_addHlForm s _
  | .ldA_MemHLI => does_loadAStep s _
  | .decHL => does_decPairForm s _
  | .incL => does_incForm s _
  | .decL => does_decForm s _
  | .cpl => does_cplForm s
  | .ldMemHLD_A => does_storeAStep s _
  | .incSP => does_incPairForm s _
  | .incMemHL => does_incForm s _
  | .decMemHL => does_decForm s _
  | .scf => does_scfForm s
  | .addHL_SP => does_addHlForm s _
  | .ldA_MemHLD => does_loadAStep s _
  | .decSP => does_decPairForm s _
  | .incA => does_incForm s _
  | .decA => does_decForm s _
  | .ccf => does_ccfForm s
  | .ldB_B => does_loadRegReg s _ _
  | .ldB_C => does_loadRegReg s _ _
  | .ldB_D => does_loadRegReg s _ _
  | .ldB_E => does_loadRegReg s _ _
  | .ldB_H => does_loadRegReg s _ _
  | .ldB_L => does_loadRegReg s _ _
  | .ldB_MemHL => does_loadRegMem s _
  | .ldB_A => does_loadRegReg s _ _
  | .ldC_B => does_loadRegReg s _ _
  | .ldC_C => does_loadRegReg s _ _
  | .ldC_D => does_loadRegReg s _ _
  | .ldC_E => does_loadRegReg s _ _
  | .ldC_H => does_loadRegReg s _ _
  | .ldC_L => does_loadRegReg s _ _
  | .ldC_MemHL => does_loadRegMem s _
  | .ldC_A => does_loadRegReg s _ _
  | .ldD_B => does_loadRegReg s _ _
  | .ldD_C => does_loadRegReg s _ _
  | .ldD_D => does_loadRegReg s _ _
  | .ldD_E => does_loadRegReg s _ _
  | .ldD_H => does_loadRegReg s _ _
  | .ldD_L => does_loadRegReg s _ _
  | .ldD_MemHL => does_loadRegMem s _
  | .ldD_A => does_loadRegReg s _ _
  | .ldE_B => does_loadRegReg s _ _
  | .ldE_C => does_loadRegReg s _ _
  | .ldE_D => does_loadRegReg s _ _
  | .ldE_E => does_loadRegReg s _ _
  | .ldE_H => does_loadRegReg s _ _
  | .ldE_L => does_loadRegReg s _ _
  | .ldE_MemHL => does_loadRegMem s _
  | .ldE_A => does_loadRegReg s _ _
  | .ldH_B => does_loadRegReg s _ _
  | .ldH_C => does_loadRegReg s _ _
  | .ldH_D => does_loadRegReg s _ _
  | .ldH_E => does_loadRegReg s _ _
  | .ldH_H => does_loadRegReg s _ _
  | .ldH_L => does_loadRegReg s _ _
  | .ldH_MemHL => does_loadRegMem s _
  | .ldH_A => does_loadRegReg s _ _
  | .ldL_B => does_loadRegReg s _ _
  | .ldL_C => does_loadRegReg s _ _
  | .ldL_D => does_loadRegReg s _ _
  | .ldL_E => does_loadRegReg s _ _
  | .ldL_H => does_loadRegReg s _ _
  | .ldL_L => does_loadRegReg s _ _
  | .ldL_MemHL => does_loadRegMem s _
  | .ldL_A => does_loadRegReg s _ _
  | .ldMemHL_B => does_storeMemReg s _
  | .ldMemHL_C => does_storeMemReg s _
  | .ldMemHL_D => does_storeMemReg s _
  | .ldMemHL_E => does_storeMemReg s _
  | .ldMemHL_H => does_storeMemReg s _
  | .ldMemHL_L => does_storeMemReg s _
  | .halt => does_haltForm s
  | .ldMemHL_A => does_storeMemReg s _
  | .ldA_B => does_loadRegReg s _ _
  | .ldA_C => does_loadRegReg s _ _
  | .ldA_D => does_loadRegReg s _ _
  | .ldA_E => does_loadRegReg s _ _
  | .ldA_H => does_loadRegReg s _ _
  | .ldA_L => does_loadRegReg s _ _
  | .ldA_MemHL => does_loadRegMem s _
  | .ldA_A => does_loadRegReg s _ _
  | .addA_B => does_aluForm s _ _
  | .addA_C => does_aluForm s _ _
  | .addA_D => does_aluForm s _ _
  | .addA_E => does_aluForm s _ _
  | .addA_H => does_aluForm s _ _
  | .addA_L => does_aluForm s _ _
  | .addA_MemHL => does_aluForm s _ _
  | .addA_A => does_aluForm s _ _
  | .adcA_B => does_aluForm s _ _
  | .adcA_C => does_aluForm s _ _
  | .adcA_D => does_aluForm s _ _
  | .adcA_E => does_aluForm s _ _
  | .adcA_H => does_aluForm s _ _
  | .adcA_L => does_aluForm s _ _
  | .adcA_MemHL => does_aluForm s _ _
  | .adcA_A => does_aluForm s _ _
  | .subA_B => does_aluForm s _ _
  | .subA_C => does_aluForm s _ _
  | .subA_D => does_aluForm s _ _
  | .subA_E => does_aluForm s _ _
  | .subA_H => does_aluForm s _ _
  | .subA_L => does_aluForm s _ _
  | .subA_MemHL => does_aluForm s _ _
  | .subA_A => does_aluForm s _ _
  | .sbcA_B => does_aluForm s _ _
  | .sbcA_C => does_aluForm s _ _
  | .sbcA_D => does_aluForm s _ _
  | .sbcA_E => does_aluForm s _ _
  | .sbcA_H => does_aluForm s _ _
  | .sbcA_L => does_aluForm s _ _
  | .sbcA_MemHL => does_aluForm s _ _
  | .sbcA_A => does_aluForm s _ _
  | .andA_B => does_aluForm s _ _
  | .andA_C => does_aluForm s _ _
  | .andA_D => does_aluForm s _ _
  | .andA_E => does_aluForm s _ _
  | .andA_H => does_aluForm s _ _
  | .andA_L => does_aluForm s _ _
  | .andA_MemHL => does_aluForm s _ _
  | .andA_A => does_aluForm s _ _
  | .xorA_B => does_aluForm s _ _
  | .xorA_C => does_aluForm s _ _
  | .xorA_D => does_aluForm s _ _
  | .xorA_E => does_aluForm s _ _
  | .xorA_H => does_aluForm s _ _
  | .xorA_L => does_aluForm s _ _
  | .xorA_MemHL => does_aluForm s _ _
  | .xorA_A => does_aluForm s _ _
  | .orA_B => does_aluForm s _ _
  | .orA_C => does_aluForm s _ _
  | .orA_D => does_aluForm s _ _
  | .orA_E => does_aluForm s _ _
  | .orA_H => does_aluForm s _ _
  | .orA_L => does_aluForm s _ _
  | .orA_MemHL => does_aluForm s _ _
  | .orA_A => does_aluForm s _ _
  | .cpA_B => does_aluForm s _ _
  | .cpA_C => does_aluForm s _ _
  | .cpA_D => does_aluForm s _ _
  | .cpA_E => does_aluForm s _ _
  | .cpA_H => does_aluForm s _ _
  | .cpA_L => does_aluForm s _ _
  | .cpA_MemHL => does_aluForm s _ _
  | .cpA_A => does_aluForm s _ _
  | .retNZ => does_retIf s _
  | .popBC => does_popForm s _
  | .pushBC => does_pushForm s _
  | .rst00 => does_restart s _
  | .retZ => does_retIf s _
  | .ret => does_retForm s
  | .rst08 => does_restart s _
  | .retNC => does_retIf s _
  | .popDE => does_popForm s _
  | .illegalD3 => does_raiseIllegal s 0xD3#8 (by decide)
  | .pushDE => does_pushForm s _
  | .rst10 => does_restart s _
  | .retC => does_retIf s _
  | .reti => does_retiForm s
  | .illegalDB => does_raiseIllegal s 0xDB#8 (by decide)
  | .illegalDD => does_raiseIllegal s 0xDD#8 (by decide)
  | .rst18 => does_restart s _
  | .popHL => does_popForm s _
  | .ldMemC_A => does_storeA s _ (by decide)
  | .illegalE3 => does_raiseIllegal s 0xE3#8 (by decide)
  | .illegalE4 => does_raiseIllegal s 0xE4#8 (by decide)
  | .pushHL => does_pushForm s _
  | .rst20 => does_restart s _
  | .jpHL => does_jumpTo s _ (by decide)
  | .illegalEB => does_raiseIllegal s 0xEB#8 (by decide)
  | .illegalEC => does_raiseIllegal s 0xEC#8 (by decide)
  | .illegalED => does_raiseIllegal s 0xED#8 (by decide)
  | .rst28 => does_restart s _
  | .popAF => does_popForm s _
  | .ldA_MemC => does_loadA s _ (by decide)
  | .di => does_diForm s
  | .illegalF4 => does_raiseIllegal s 0xF4#8 (by decide)
  | .pushAF => does_pushForm s _
  | .rst30 => does_restart s _
  | .ldSP_HL => does_loadSpHl s
  | .ei => does_eiForm s
  | .illegalFC => does_raiseIllegal s 0xFC#8 (by decide)
  | .illegalFD => does_raiseIllegal s 0xFD#8 (by decide)
  | .rst38 => does_restart s _
  | .rlcB => does_rotateForm s _ _
  | .rlcC => does_rotateForm s _ _
  | .rlcD => does_rotateForm s _ _
  | .rlcE => does_rotateForm s _ _
  | .rlcH => does_rotateForm s _ _
  | .rlcL => does_rotateForm s _ _
  | .rlcMemHL => does_rotateForm s _ _
  | .rlcA => does_rotateForm s _ _
  | .rrcB => does_rotateForm s _ _
  | .rrcC => does_rotateForm s _ _
  | .rrcD => does_rotateForm s _ _
  | .rrcE => does_rotateForm s _ _
  | .rrcH => does_rotateForm s _ _
  | .rrcL => does_rotateForm s _ _
  | .rrcMemHL => does_rotateForm s _ _
  | .rrcA => does_rotateForm s _ _
  | .rlB => does_rotateForm s _ _
  | .rlC => does_rotateForm s _ _
  | .rlD => does_rotateForm s _ _
  | .rlE => does_rotateForm s _ _
  | .rlH => does_rotateForm s _ _
  | .rlL => does_rotateForm s _ _
  | .rlMemHL => does_rotateForm s _ _
  | .rlA => does_rotateForm s _ _
  | .rrB => does_rotateForm s _ _
  | .rrC => does_rotateForm s _ _
  | .rrD => does_rotateForm s _ _
  | .rrE => does_rotateForm s _ _
  | .rrH => does_rotateForm s _ _
  | .rrL => does_rotateForm s _ _
  | .rrMemHL => does_rotateForm s _ _
  | .rrA => does_rotateForm s _ _
  | .slaB => does_rotateForm s _ _
  | .slaC => does_rotateForm s _ _
  | .slaD => does_rotateForm s _ _
  | .slaE => does_rotateForm s _ _
  | .slaH => does_rotateForm s _ _
  | .slaL => does_rotateForm s _ _
  | .slaMemHL => does_rotateForm s _ _
  | .slaA => does_rotateForm s _ _
  | .sraB => does_rotateForm s _ _
  | .sraC => does_rotateForm s _ _
  | .sraD => does_rotateForm s _ _
  | .sraE => does_rotateForm s _ _
  | .sraH => does_rotateForm s _ _
  | .sraL => does_rotateForm s _ _
  | .sraMemHL => does_rotateForm s _ _
  | .sraA => does_rotateForm s _ _
  | .swapB => does_rotateForm s _ _
  | .swapC => does_rotateForm s _ _
  | .swapD => does_rotateForm s _ _
  | .swapE => does_rotateForm s _ _
  | .swapH => does_rotateForm s _ _
  | .swapL => does_rotateForm s _ _
  | .swapMemHL => does_rotateForm s _ _
  | .swapA => does_rotateForm s _ _
  | .srlB => does_rotateForm s _ _
  | .srlC => does_rotateForm s _ _
  | .srlD => does_rotateForm s _ _
  | .srlE => does_rotateForm s _ _
  | .srlH => does_rotateForm s _ _
  | .srlL => does_rotateForm s _ _
  | .srlMemHL => does_rotateForm s _ _
  | .srlA => does_rotateForm s _ _
  | .bit0_B => does_bitForm s _ _
  | .bit0_C => does_bitForm s _ _
  | .bit0_D => does_bitForm s _ _
  | .bit0_E => does_bitForm s _ _
  | .bit0_H => does_bitForm s _ _
  | .bit0_L => does_bitForm s _ _
  | .bit0_MemHL => does_bitForm s _ _
  | .bit0_A => does_bitForm s _ _
  | .bit1_B => does_bitForm s _ _
  | .bit1_C => does_bitForm s _ _
  | .bit1_D => does_bitForm s _ _
  | .bit1_E => does_bitForm s _ _
  | .bit1_H => does_bitForm s _ _
  | .bit1_L => does_bitForm s _ _
  | .bit1_MemHL => does_bitForm s _ _
  | .bit1_A => does_bitForm s _ _
  | .bit2_B => does_bitForm s _ _
  | .bit2_C => does_bitForm s _ _
  | .bit2_D => does_bitForm s _ _
  | .bit2_E => does_bitForm s _ _
  | .bit2_H => does_bitForm s _ _
  | .bit2_L => does_bitForm s _ _
  | .bit2_MemHL => does_bitForm s _ _
  | .bit2_A => does_bitForm s _ _
  | .bit3_B => does_bitForm s _ _
  | .bit3_C => does_bitForm s _ _
  | .bit3_D => does_bitForm s _ _
  | .bit3_E => does_bitForm s _ _
  | .bit3_H => does_bitForm s _ _
  | .bit3_L => does_bitForm s _ _
  | .bit3_MemHL => does_bitForm s _ _
  | .bit3_A => does_bitForm s _ _
  | .bit4_B => does_bitForm s _ _
  | .bit4_C => does_bitForm s _ _
  | .bit4_D => does_bitForm s _ _
  | .bit4_E => does_bitForm s _ _
  | .bit4_H => does_bitForm s _ _
  | .bit4_L => does_bitForm s _ _
  | .bit4_MemHL => does_bitForm s _ _
  | .bit4_A => does_bitForm s _ _
  | .bit5_B => does_bitForm s _ _
  | .bit5_C => does_bitForm s _ _
  | .bit5_D => does_bitForm s _ _
  | .bit5_E => does_bitForm s _ _
  | .bit5_H => does_bitForm s _ _
  | .bit5_L => does_bitForm s _ _
  | .bit5_MemHL => does_bitForm s _ _
  | .bit5_A => does_bitForm s _ _
  | .bit6_B => does_bitForm s _ _
  | .bit6_C => does_bitForm s _ _
  | .bit6_D => does_bitForm s _ _
  | .bit6_E => does_bitForm s _ _
  | .bit6_H => does_bitForm s _ _
  | .bit6_L => does_bitForm s _ _
  | .bit6_MemHL => does_bitForm s _ _
  | .bit6_A => does_bitForm s _ _
  | .bit7_B => does_bitForm s _ _
  | .bit7_C => does_bitForm s _ _
  | .bit7_D => does_bitForm s _ _
  | .bit7_E => does_bitForm s _ _
  | .bit7_H => does_bitForm s _ _
  | .bit7_L => does_bitForm s _ _
  | .bit7_MemHL => does_bitForm s _ _
  | .bit7_A => does_bitForm s _ _
  | .res0_B => does_resForm s _ _
  | .res0_C => does_resForm s _ _
  | .res0_D => does_resForm s _ _
  | .res0_E => does_resForm s _ _
  | .res0_H => does_resForm s _ _
  | .res0_L => does_resForm s _ _
  | .res0_MemHL => does_resForm s _ _
  | .res0_A => does_resForm s _ _
  | .res1_B => does_resForm s _ _
  | .res1_C => does_resForm s _ _
  | .res1_D => does_resForm s _ _
  | .res1_E => does_resForm s _ _
  | .res1_H => does_resForm s _ _
  | .res1_L => does_resForm s _ _
  | .res1_MemHL => does_resForm s _ _
  | .res1_A => does_resForm s _ _
  | .res2_B => does_resForm s _ _
  | .res2_C => does_resForm s _ _
  | .res2_D => does_resForm s _ _
  | .res2_E => does_resForm s _ _
  | .res2_H => does_resForm s _ _
  | .res2_L => does_resForm s _ _
  | .res2_MemHL => does_resForm s _ _
  | .res2_A => does_resForm s _ _
  | .res3_B => does_resForm s _ _
  | .res3_C => does_resForm s _ _
  | .res3_D => does_resForm s _ _
  | .res3_E => does_resForm s _ _
  | .res3_H => does_resForm s _ _
  | .res3_L => does_resForm s _ _
  | .res3_MemHL => does_resForm s _ _
  | .res3_A => does_resForm s _ _
  | .res4_B => does_resForm s _ _
  | .res4_C => does_resForm s _ _
  | .res4_D => does_resForm s _ _
  | .res4_E => does_resForm s _ _
  | .res4_H => does_resForm s _ _
  | .res4_L => does_resForm s _ _
  | .res4_MemHL => does_resForm s _ _
  | .res4_A => does_resForm s _ _
  | .res5_B => does_resForm s _ _
  | .res5_C => does_resForm s _ _
  | .res5_D => does_resForm s _ _
  | .res5_E => does_resForm s _ _
  | .res5_H => does_resForm s _ _
  | .res5_L => does_resForm s _ _
  | .res5_MemHL => does_resForm s _ _
  | .res5_A => does_resForm s _ _
  | .res6_B => does_resForm s _ _
  | .res6_C => does_resForm s _ _
  | .res6_D => does_resForm s _ _
  | .res6_E => does_resForm s _ _
  | .res6_H => does_resForm s _ _
  | .res6_L => does_resForm s _ _
  | .res6_MemHL => does_resForm s _ _
  | .res6_A => does_resForm s _ _
  | .res7_B => does_resForm s _ _
  | .res7_C => does_resForm s _ _
  | .res7_D => does_resForm s _ _
  | .res7_E => does_resForm s _ _
  | .res7_H => does_resForm s _ _
  | .res7_L => does_resForm s _ _
  | .res7_MemHL => does_resForm s _ _
  | .res7_A => does_resForm s _ _
  | .set0_B => does_setForm s _ _
  | .set0_C => does_setForm s _ _
  | .set0_D => does_setForm s _ _
  | .set0_E => does_setForm s _ _
  | .set0_H => does_setForm s _ _
  | .set0_L => does_setForm s _ _
  | .set0_MemHL => does_setForm s _ _
  | .set0_A => does_setForm s _ _
  | .set1_B => does_setForm s _ _
  | .set1_C => does_setForm s _ _
  | .set1_D => does_setForm s _ _
  | .set1_E => does_setForm s _ _
  | .set1_H => does_setForm s _ _
  | .set1_L => does_setForm s _ _
  | .set1_MemHL => does_setForm s _ _
  | .set1_A => does_setForm s _ _
  | .set2_B => does_setForm s _ _
  | .set2_C => does_setForm s _ _
  | .set2_D => does_setForm s _ _
  | .set2_E => does_setForm s _ _
  | .set2_H => does_setForm s _ _
  | .set2_L => does_setForm s _ _
  | .set2_MemHL => does_setForm s _ _
  | .set2_A => does_setForm s _ _
  | .set3_B => does_setForm s _ _
  | .set3_C => does_setForm s _ _
  | .set3_D => does_setForm s _ _
  | .set3_E => does_setForm s _ _
  | .set3_H => does_setForm s _ _
  | .set3_L => does_setForm s _ _
  | .set3_MemHL => does_setForm s _ _
  | .set3_A => does_setForm s _ _
  | .set4_B => does_setForm s _ _
  | .set4_C => does_setForm s _ _
  | .set4_D => does_setForm s _ _
  | .set4_E => does_setForm s _ _
  | .set4_H => does_setForm s _ _
  | .set4_L => does_setForm s _ _
  | .set4_MemHL => does_setForm s _ _
  | .set4_A => does_setForm s _ _
  | .set5_B => does_setForm s _ _
  | .set5_C => does_setForm s _ _
  | .set5_D => does_setForm s _ _
  | .set5_E => does_setForm s _ _
  | .set5_H => does_setForm s _ _
  | .set5_L => does_setForm s _ _
  | .set5_MemHL => does_setForm s _ _
  | .set5_A => does_setForm s _ _
  | .set6_B => does_setForm s _ _
  | .set6_C => does_setForm s _ _
  | .set6_D => does_setForm s _ _
  | .set6_E => does_setForm s _ _
  | .set6_H => does_setForm s _ _
  | .set6_L => does_setForm s _ _
  | .set6_MemHL => does_setForm s _ _
  | .set6_A => does_setForm s _ _
  | .set7_B => does_setForm s _ _
  | .set7_C => does_setForm s _ _
  | .set7_D => does_setForm s _ _
  | .set7_E => does_setForm s _ _
  | .set7_H => does_setForm s _ _
  | .set7_L => does_setForm s _ _
  | .set7_MemHL => does_setForm s _ _
  | .set7_A => does_setForm s _ _

end Sys2Proof.Machine
end

