-- ==== Sys2Proof/Laws/Ops.lean ====
section
/-! SUPPORT. What the shared operations do: ending an instruction, operands, the stack, fetching. -/

namespace Sys2Proof.Machine

theorem finish_eq_next {n : Nat} {s t : State} : finish n s = .next t ↔ t = { s with stepCost := n } := by
  simp [finish, eq_comm]

theorem word_sub_two (x : Word) : x - 1#16 - 1#16 = x - 2#16 := by bv_omega
theorem word_add_two (x : Word) : x + 1#16 + 1#16 = x + 2#16 := by bv_omega

/-- A byte of the bus after a bus read: only `IF` can differ (20_memory.md R122). -/
theorem Bus.peek_request (b : Bus) (i : Nat) {a : Word} (h : a ≠ 0xFF0F#16) : (b.request i).peek a = b.peek a := by
  unfold Bus.peek
  cases e : region a with
  | io o =>
    have ho : o ≠ Io.ifl := by
      have n := region_io e
      intro c
      apply h
      apply BitVec.eq_of_toNat_eq
      simp only [Region.names] at n
      have : Io.ifl = 15 := rfl
      simp; omega
    have g (p : Nat) (hp : p ≠ Io.ifl) : (b.request i).ioAt p = b.ioAt p := ioAt_setIo_ne b _ hp
    show (b.request i).readIo o = b.readIo o
    unfold Bus.readIo Bus.joypadValue Bus.joypadLow Bus.joypadSelect Bus.palIndex
    rw [g o ho, g _ (show Io.p1 ≠ Io.ifl by decide), g _ (show Io.bcps ≠ Io.ifl by decide), g _ (show Io.ocps ≠ Io.ifl by decide)]
    rfl
  | _ => rfl

theorem Bus.peek_afterRead (b : Bus) (r : Word) {a : Word} (h : a ≠ 0xFF0F#16) : (b.afterRead r).peek a = b.peek a := by
  unfold Bus.afterRead
  split
  · exact b.peek_request 4 h
  · rfl

/-- Only a read of 0xFF00 has an effect (R122). -/
theorem Bus.afterRead_other (b : Bus) {a : Word} (h : a ≠ 0xFF00#16) : b.afterRead a = b := by
  unfold Bus.afterRead
  rw [if_neg fun c => h c.1]

/-- `IF` is a plain cell: writing it directly is the bus write of 0xFF0F (20_memory.md R116). -/
theorem Bus.write_ifl (b : Bus) (v : Byte) : b.write 0xFF0F#16 v = b.setIo Io.ifl v := by
  have e : region 0xFF0F#16 = .io Io.ifl := by decide
  unfold Bus.write
  rw [e]
  cases h : b.color <;> simp [Bus.writeIo, Bus.writeIoColor, h]

/-! Operands: reading one gives its value and at most the side effect of the read. -/

@[simp] theorem State.readOperand_reg (s : State) (r : Reg8) : s.readOperand (.reg r) = (s.regs.get r, s) := rfl
@[simp] theorem State.readOperand_memHL (s : State) :
    s.readOperand .memHL = (s.bus.peek s.hl, { s with bus := s.bus.afterRead s.hl }) := rfl
@[simp] theorem State.readOperand_regs (s : State) (o : Operand8) : (s.readOperand o).2.regs = s.regs := by cases o <;> rfl
@[simp] theorem State.readOperand_flags (s : State) (o : Operand8) : (s.readOperand o).2.flags = s.flags := by cases o <;> rfl
@[simp] theorem State.writeOperand_reg (s : State) (r : Reg8) (v : Byte) : s.writeOperand (.reg r) v = s.setReg r v := rfl
@[simp] theorem State.writeOperand_memHL (s : State) (v : Byte) : s.writeOperand .memHL v = s.writeMem s.hl v := rfl

/-! The stack (00_scope.md R12). -/

/-- A push is two bus writes and two off `SP`. -/
theorem State.push16_eq (s : State) (v : Word) :
    s.push16 v = { s with
      regs := { s.regs with sp := s.regs.sp - 2#16 }
      bus := (s.bus.write (s.regs.sp - 1#16) (hiByte v)).write (s.regs.sp - 2#16) (loByte v) } := by
  rw [← word_sub_two]; rfl

/-- A pop is two bus reads and two on `SP`. -/
theorem State.pop16_eq (s : State) :
    s.pop16 =
      (mkWord ((s.bus.afterRead s.regs.sp).peek (s.regs.sp + 1#16)) (s.bus.peek s.regs.sp),
        { s with
          regs := { s.regs with sp := s.regs.sp + 2#16 }
          bus := (s.bus.afterRead s.regs.sp).afterRead (s.regs.sp + 1#16) }) := by
  rw [← word_add_two]; rfl

/-! Fetching (30_encoding.md R155). -/

@[simp] theorem State.fetch8_fst (s : State) : s.fetch8.1 = s.bus.peek s.regs.pc := rfl
theorem State.fetch8_snd (s : State) :
    s.fetch8.2 = { s with regs := { s.regs with pc := s.regs.pc + 1#16 }, bus := s.bus.afterRead s.regs.pc } := rfl

/-- A length is 1, 2 or 3 (R140). -/
theorem instrLen_cases (op : Byte) : instrLen op = 1 ∨ instrLen op = 2 ∨ instrLen op = 3 := by revert op; decide +kernel

/-- The fetch of an instruction, by its length: which bytes are read, and the state left. -/
theorem fetchInstr_eq (s : State) :
    fetchInstr s =
      let op := s.bus.peek s.regs.pc
      let s1 := s.fetch8.2
      let s2 := s1.fetch8.2
      let b1 := s1.bus.peek s1.regs.pc
      if instrLen op = 1 then (decodeOp op 0#8 0#8, s1)
      else if instrLen op = 2 then (decodeOp op b1 0#8, s2)
      else (decodeOp op b1 (s2.bus.peek s2.regs.pc), s2.fetch8.2) := by
  unfold fetchInstr
  simp only [State.fetch8_fst]
  rcases instrLen_cases (s.bus.peek s.regs.pc) with h | h | h <;> simp [h]

end Sys2Proof.Machine
end

