-- ==== Sys2Proof/Laws/Step.lean ====
section
/-! SUPPORT. Everything a CPU step can do, said once: it follows from what a meaning can do. -/

namespace Sys2Proof.Machine

theorem Touches.fetch8 {s t : State} (h : Touches s t) : Touches s t.fetch8.2 := (h.readMem _).setPc _

theorem Touches.setIfl {s t : State} (h : Touches s t) (v : Byte) : Touches s (t.setIfl v) :=
  { h with bus := by show s.bus.Reaches (t.bus.setIo Io.ifl v); rw [← Bus.write_ifl]; exact h.bus.write _ _ }

theorem Touches.commitIme (s : State) : Touches s s.commitIme := by
  unfold State.commitIme
  split
  · exact { Touches.refl s with }
  · exact Touches.refl s

theorem touches_fetchInstr (s : State) : Touches s (fetchInstr s).2 := by
  have h1 := (Touches.refl s).fetch8
  rw [fetchInstr_eq]
  dsimp only
  split
  · exact h1
  · split
    · exact h1.fetch8
    · exact h1.fetch8.fetch8

theorem touches_takeInterrupt (s : State) : Touches s (takeInterrupt s) := by
  have h : Touches s { s with ime := false } := { Touches.refl s with }
  exact { ((h.setIfl _).push16 _).setPc (vector (lowestRequest s.pendingBits)) with }

/-- What a CPU step answers on a machine that is not locked. -/
def StepDoes (s : State) (r : Result) : Prop :=
  (∃ t, r = .next t ∧ Touches s t ∧ IsCost t.stepCost) ∨
    ∃ op left, (op : Byte) ∈ [0xD3#8, 0xDB#8, 0xDD#8, 0xE3#8, 0xE4#8, 0xEB#8, 0xEC#8, 0xED#8, 0xF4#8, 0xFC#8, 0xFD#8]
      ∧ left.locked = true ∧ r = .fault (.illegalOpcode op left)

theorem fetchExecute_does {s t : State} (h : Touches s t) : StepDoes s (fetchExecute t) := by
  have g := h.trans (touches_fetchInstr t)
  unfold fetchExecute
  rcases exec_does (fetchInstr t).1 (fetchInstr t).2 with ⟨u, e, hu, hc⟩ | ⟨op, ho, e⟩
  · exact .inl ⟨u, e, g.trans hu, hc⟩
  · exact .inr ⟨op, _, ho, rfl, e⟩

/-- A CPU step that is not locked ends in a next state of a legal cost, or in the one fault. -/
theorem cpuStep_does {s : State} (h : s.locked = false) : StepDoes s (cpuStep s) := by
  unfold cpuStep
  rw [if_neg (by simp [h])]
  split
  · exact .inl ⟨_, rfl, { Touches.refl s with }, .inl rfl⟩
  · have g := Touches.commitIme s
    unfold dispatchOrFetch
    split
    · split
      · exact fetchExecute_does (g.setIfl _)
      · exact .inl ⟨_, rfl, g.trans (touches_takeInterrupt _), by simp [takeInterrupt, IsCost]⟩
    · exact fetchExecute_does g

theorem cpuStep_locked {s : State} (h : s.locked = true) : cpuStep s = .fault (.locked s) := by
  unfold cpuStep
  rw [if_pos h]

/-- A step that answers a next state is a CPU step followed by the devices. -/
theorem step_next {s u : State} (h : step s = .next u) :
    ∃ t, cpuStep s = .next t ∧ u = deviceStep t ∧ Touches s t ∧ IsCost t.stepCost := by
  cases hl : s.locked with
  | true =>
    unfold step systemStep at h
    rw [cpuStep_locked hl] at h
    cases h
  | false =>
    unfold step systemStep at h
    rcases cpuStep_does hl with ⟨t, e, ht, hc⟩ | ⟨op, left, _, _, e⟩
    · rw [e] at h
      cases h
      exact ⟨t, e, rfl, ht, hc⟩
    · rw [e] at h
      cases h

end Sys2Proof.Machine
end

