-- ==== Sys2Proof/Tests/Slice0.lean ====
section
/-! SUPPORT. Tests. The expected results are the spec's: the encodings of 30_encoding.md R150 and R151 written out bit by bit, the
vectors of 95_test_vectors.md (named in each test), and for every statement with hypotheses a witness that meets them. -/

namespace Sys2Proof.Tests

set_option Elab.async false

open Sys2Proof Sys2Proof.Machine Sys2Proof.Claims

/-! ## Well-formedness -/

/-- The one check of WellFormed refuses the one ill-formed row: the bare prefix. -/
theorem test_wf_refuses_prefix : Instr.wf (.prefixCB 0x37#8) = false := by decide

theorem test_wf_accepts_swap : Instr.wf .swapA = true := by decide

/-! ## Decoding: every row, from the grid of R150 and the fields of R151 -/

/-- The instruction of exactly these bytes. -/
def word (bytes : List Byte) : Option Instr :=
  match decode bytes with
  | .ok (i, []) => some i
  | _ => none

theorem test_decode_row_0 :
    List.map word [[0b00000000#8], [0b00000001#8, 0x34#8, 0x12#8], [0b00000010#8], [0b00000011#8], [0b00000100#8],
     [0b00000101#8], [0b00000110#8, 0xA5#8], [0b00000111#8], [0b00001000#8, 0x34#8, 0x12#8], [0b00001001#8],
     [0b00001010#8], [0b00001011#8], [0b00001100#8], [0b00001101#8], [0b00001110#8, 0xA5#8],
     [0b00001111#8]] =
    List.map some [.nop, .ldBC_d16 0x1234#16, .ldMemBC_A, .incBC, .incB,
     .decB, .ldB_d8 0xA5#8, .rlca, .ldMemA16_SP 0x1234#16, .addHL_BC,
     .ldA_MemBC, .decBC, .incC, .decC, .ldC_d8 0xA5#8,
     .rrca] := by decide +kernel

theorem test_decode_row_1 :
    List.map word [[0b00010000#8, 0xA5#8], [0b00010001#8, 0x34#8, 0x12#8], [0b00010010#8], [0b00010011#8], [0b00010100#8],
     [0b00010101#8], [0b00010110#8, 0xA5#8], [0b00010111#8], [0b00011000#8, 0xA5#8], [0b00011001#8],
     [0b00011010#8], [0b00011011#8], [0b00011100#8], [0b00011101#8], [0b00011110#8, 0xA5#8],
     [0b00011111#8]] =
    List.map some [.stop 0xA5#8, .ldDE_d16 0x1234#16, .ldMemDE_A, .incDE, .incD,
     .decD, .ldD_d8 0xA5#8, .rla, .jr 0xA5#8, .addHL_DE,
     .ldA_MemDE, .decDE, .incE, .decE, .ldE_d8 0xA5#8,
     .rra] := by decide +kernel

theorem test_decode_row_2 :
    List.map word [[0b00100000#8, 0xA5#8], [0b00100001#8, 0x34#8, 0x12#8], [0b00100010#8], [0b00100011#8], [0b00100100#8],
     [0b00100101#8], [0b00100110#8, 0xA5#8], [0b00100111#8], [0b00101000#8, 0xA5#8], [0b00101001#8],
     [0b00101010#8], [0b00101011#8], [0b00101100#8], [0b00101101#8], [0b00101110#8, 0xA5#8],
     [0b00101111#8]] =
    List.map some [.jrNZ 0xA5#8, .ldHL_d16 0x1234#16, .ldMemHLI_A, .incHL, .incH,
     .decH, .ldH_d8 0xA5#8, .daa, .jrZ 0xA5#8, .addHL_HL,
     .ldA_MemHLI, .decHL, .incL, .decL, .ldL_d8 0xA5#8,
     .cpl] := by decide +kernel

theorem test_decode_row_3 :
    List.map word [[0b00110000#8, 0xA5#8], [0b00110001#8, 0x34#8, 0x12#8], [0b00110010#8], [0b00110011#8], [0b00110100#8],
     [0b00110101#8], [0b00110110#8, 0xA5#8], [0b00110111#8], [0b00111000#8, 0xA5#8], [0b00111001#8],
     [0b00111010#8], [0b00111011#8], [0b00111100#8], [0b00111101#8], [0b00111110#8, 0xA5#8],
     [0b00111111#8]] =
    List.map some [.jrNC 0xA5#8, .ldSP_d16 0x1234#16, .ldMemHLD_A, .incSP, .incMemHL,
     .decMemHL, .ldMemHL_d8 0xA5#8, .scf, .jrC 0xA5#8, .addHL_SP,
     .ldA_MemHLD, .decSP, .incA, .decA, .ldA_d8 0xA5#8,
     .ccf] := by decide +kernel

theorem test_decode_row_4 :
    List.map word [[0b01000000#8], [0b01000001#8], [0b01000010#8], [0b01000011#8], [0b01000100#8],
     [0b01000101#8], [0b01000110#8], [0b01000111#8], [0b01001000#8], [0b01001001#8],
     [0b01001010#8], [0b01001011#8], [0b01001100#8], [0b01001101#8], [0b01001110#8],
     [0b01001111#8]] =
    List.map some [.ldB_B, .ldB_C, .ldB_D, .ldB_E, .ldB_H,
     .ldB_L, .ldB_MemHL, .ldB_A, .ldC_B, .ldC_C,
     .ldC_D, .ldC_E, .ldC_H, .ldC_L, .ldC_MemHL,
     .ldC_A] := by decide +kernel

theorem test_decode_row_5 :
    List.map word [[0b01010000#8], [0b01010001#8], [0b01010010#8], [0b01010011#8], [0b01010100#8],
     [0b01010101#8], [0b01010110#8], [0b01010111#8], [0b01011000#8], [0b01011001#8],
     [0b01011010#8], [0b01011011#8], [0b01011100#8], [0b01011101#8], [0b01011110#8],
     [0b01011111#8]] =
    List.map some [.ldD_B, .ldD_C, .ldD_D, .ldD_E, .ldD_H,
     .ldD_L, .ldD_MemHL, .ldD_A, .ldE_B, .ldE_C,
     .ldE_D, .ldE_E, .ldE_H, .ldE_L, .ldE_MemHL,
     .ldE_A] := by decide +kernel

theorem test_decode_row_6 :
    List.map word [[0b01100000#8], [0b01100001#8], [0b01100010#8], [0b01100011#8], [0b01100100#8],
     [0b01100101#8], [0b01100110#8], [0b01100111#8], [0b01101000#8], [0b01101001#8],
     [0b01101010#8], [0b01101011#8], [0b01101100#8], [0b01101101#8], [0b01101110#8],
     [0b01101111#8]] =
    List.map some [.ldH_B, .ldH_C, .ldH_D, .ldH_E, .ldH_H,
     .ldH_L, .ldH_MemHL, .ldH_A, .ldL_B, .ldL_C,
     .ldL_D, .ldL_E, .ldL_H, .ldL_L, .ldL_MemHL,
     .ldL_A] := by decide +kernel

theorem test_decode_row_7 :
    List.map word [[0b01110000#8], [0b01110001#8], [0b01110010#8], [0b01110011#8], [0b01110100#8],
     [0b01110101#8], [0b01110110#8], [0b01110111#8], [0b01111000#8], [0b01111001#8],
     [0b01111010#8], [0b01111011#8], [0b01111100#8], [0b01111101#8], [0b01111110#8],
     [0b01111111#8]] =
    List.map some [.ldMemHL_B, .ldMemHL_C, .ldMemHL_D, .ldMemHL_E, .ldMemHL_H,
     .ldMemHL_L, .halt, .ldMemHL_A, .ldA_B, .ldA_C,
     .ldA_D, .ldA_E, .ldA_H, .ldA_L, .ldA_MemHL,
     .ldA_A] := by decide +kernel

theorem test_decode_row_8 :
    List.map word [[0b10000000#8], [0b10000001#8], [0b10000010#8], [0b10000011#8], [0b10000100#8],
     [0b10000101#8], [0b10000110#8], [0b10000111#8], [0b10001000#8], [0b10001001#8],
     [0b10001010#8], [0b10001011#8], [0b10001100#8], [0b10001101#8], [0b10001110#8],
     [0b10001111#8]] =
    List.map some [.addA_B, .addA_C, .addA_D, .addA_E, .addA_H,
     .addA_L, .addA_MemHL, .addA_A, .adcA_B, .adcA_C,
     .adcA_D, .adcA_E, .adcA_H, .adcA_L, .adcA_MemHL,
     .adcA_A] := by decide +kernel

theorem test_decode_row_9 :
    List.map word [[0b10010000#8], [0b10010001#8], [0b10010010#8], [0b10010011#8], [0b10010100#8],
     [0b10010101#8], [0b10010110#8], [0b10010111#8], [0b10011000#8], [0b10011001#8],
     [0b10011010#8], [0b10011011#8], [0b10011100#8], [0b10011101#8], [0b10011110#8],
     [0b10011111#8]] =
    List.map some [.subA_B, .subA_C, .subA_D, .subA_E, .subA_H,
     .subA_L, .subA_MemHL, .subA_A, .sbcA_B, .sbcA_C,
     .sbcA_D, .sbcA_E, .sbcA_H, .sbcA_L, .sbcA_MemHL,
     .sbcA_A] := by decide +kernel

theorem test_decode_row_A :
    List.map word [[0b10100000#8], [0b10100001#8], [0b10100010#8], [0b10100011#8], [0b10100100#8],
     [0b10100101#8], [0b10100110#8], [0b10100111#8], [0b10101000#8], [0b10101001#8],
     [0b10101010#8], [0b10101011#8], [0b10101100#8], [0b10101101#8], [0b10101110#8],
     [0b10101111#8]] =
    List.map some [.andA_B, .andA_C, .andA_D, .andA_E, .andA_H,
     .andA_L, .andA_MemHL, .andA_A, .xorA_B, .xorA_C,
     .xorA_D, .xorA_E, .xorA_H, .xorA_L, .xorA_MemHL,
     .xorA_A] := by decide +kernel

theorem test_decode_row_B :
    List.map word [[0b10110000#8], [0b10110001#8], [0b10110010#8], [0b10110011#8], [0b10110100#8],
     [0b10110101#8], [0b10110110#8], [0b10110111#8], [0b10111000#8], [0b10111001#8],
     [0b10111010#8], [0b10111011#8], [0b10111100#8], [0b10111101#8], [0b10111110#8],
     [0b10111111#8]] =
    List.map some [.orA_B, .orA_C, .orA_D, .orA_E, .orA_H,
     .orA_L, .orA_MemHL, .orA_A, .cpA_B, .cpA_C,
     .cpA_D, .cpA_E, .cpA_H, .cpA_L, .cpA_MemHL,
     .cpA_A] := by decide +kernel

theorem test_decode_row_C :
    List.map word [[0b11000000#8], [0b11000001#8], [0b11000010#8, 0x34#8, 0x12#8], [0b11000011#8, 0x34#8, 0x12#8], [0b11000100#8, 0x34#8, 0x12#8],
     [0b11000101#8], [0b11000110#8, 0xA5#8], [0b11000111#8], [0b11001000#8], [0b11001001#8],
     [0b11001010#8, 0x34#8, 0x12#8], [0b11001100#8, 0x34#8, 0x12#8], [0b11001101#8, 0x34#8, 0x12#8], [0b11001110#8, 0xA5#8], [0b11001111#8]] =
    List.map some [.retNZ, .popBC, .jpNZ 0x1234#16, .jp 0x1234#16, .callNZ 0x1234#16,
     .pushBC, .addA_d8 0xA5#8, .rst00, .retZ, .ret,
     .jpZ 0x1234#16, .callZ 0x1234#16, .call 0x1234#16, .adcA_d8 0xA5#8, .rst08] := by decide +kernel

theorem test_decode_row_D :
    List.map word [[0b11010000#8], [0b11010001#8], [0b11010010#8, 0x34#8, 0x12#8], [0b11010011#8], [0b11010100#8, 0x34#8, 0x12#8],
     [0b11010101#8], [0b11010110#8, 0xA5#8], [0b11010111#8], [0b11011000#8], [0b11011001#8],
     [0b11011010#8, 0x34#8, 0x12#8], [0b11011011#8], [0b11011100#8, 0x34#8, 0x12#8], [0b11011101#8], [0b11011110#8, 0xA5#8],
     [0b11011111#8]] =
    List.map some [.retNC, .popDE, .jpNC 0x1234#16, .illegalD3, .callNC 0x1234#16,
     .pushDE, .subA_d8 0xA5#8, .rst10, .retC, .reti,
     .jpC 0x1234#16, .illegalDB, .callC 0x1234#16, .illegalDD, .sbcA_d8 0xA5#8,
     .rst18] := by decide +kernel

theorem test_decode_row_E :
    List.map word [[0b11100000#8, 0xA5#8], [0b11100001#8], [0b11100010#8], [0b11100011#8], [0b11100100#8],
     [0b11100101#8], [0b11100110#8, 0xA5#8], [0b11100111#8], [0b11101000#8, 0xA5#8], [0b11101001#8],
     [0b11101010#8, 0x34#8, 0x12#8], [0b11101011#8], [0b11101100#8], [0b11101101#8], [0b11101110#8, 0xA5#8],
     [0b11101111#8]] =
    List.map some [.ldhMemA8_A 0xA5#8, .popHL, .ldMemC_A, .illegalE3, .illegalE4,
     .pushHL, .andA_d8 0xA5#8, .rst20, .addSP_r8 0xA5#8, .jpHL,
     .ldMemA16_A 0x1234#16, .illegalEB, .illegalEC, .illegalED, .xorA_d8 0xA5#8,
     .rst28] := by decide +kernel

theorem test_decode_row_F :
    List.map word [[0b11110000#8, 0xA5#8], [0b11110001#8], [0b11110010#8], [0b11110011#8], [0b11110100#8],
     [0b11110101#8], [0b11110110#8, 0xA5#8], [0b11110111#8], [0b11111000#8, 0xA5#8], [0b11111001#8],
     [0b11111010#8, 0x34#8, 0x12#8], [0b11111011#8], [0b11111100#8], [0b11111101#8], [0b11111110#8, 0xA5#8],
     [0b11111111#8]] =
    List.map some [.ldhA_MemA8 0xA5#8, .popAF, .ldA_MemC, .di, .illegalF4,
     .pushAF, .orA_d8 0xA5#8, .rst30, .ldHL_SPr8 0xA5#8, .ldSP_HL,
     .ldA_MemA16 0x1234#16, .ei, .illegalFC, .illegalFD, .cpA_d8 0xA5#8,
     .rst38] := by decide +kernel

theorem test_decode_secondary_0 :
    List.map (fun b => word [0b11001011#8, b]) [0b00000000#8, 0b00000001#8, 0b00000010#8, 0b00000011#8, 0b00000100#8, 0b00000101#8, 0b00000110#8, 0b00000111#8,
     0b00001000#8, 0b00001001#8, 0b00001010#8, 0b00001011#8, 0b00001100#8, 0b00001101#8, 0b00001110#8, 0b00001111#8] =
    List.map some [.rlcB, .rlcC, .rlcD, .rlcE, .rlcH, .rlcL,
     .rlcMemHL, .rlcA, .rrcB, .rrcC, .rrcD, .rrcE,
     .rrcH, .rrcL, .rrcMemHL, .rrcA] := by decide +kernel

theorem test_decode_secondary_1 :
    List.map (fun b => word [0b11001011#8, b]) [0b00010000#8, 0b00010001#8, 0b00010010#8, 0b00010011#8, 0b00010100#8, 0b00010101#8, 0b00010110#8, 0b00010111#8,
     0b00011000#8, 0b00011001#8, 0b00011010#8, 0b00011011#8, 0b00011100#8, 0b00011101#8, 0b00011110#8, 0b00011111#8] =
    List.map some [.rlB, .rlC, .rlD, .rlE, .rlH, .rlL,
     .rlMemHL, .rlA, .rrB, .rrC, .rrD, .rrE,
     .rrH, .rrL, .rrMemHL, .rrA] := by decide +kernel

theorem test_decode_secondary_2 :
    List.map (fun b => word [0b11001011#8, b]) [0b00100000#8, 0b00100001#8, 0b00100010#8, 0b00100011#8, 0b00100100#8, 0b00100101#8, 0b00100110#8, 0b00100111#8,
     0b00101000#8, 0b00101001#8, 0b00101010#8, 0b00101011#8, 0b00101100#8, 0b00101101#8, 0b00101110#8, 0b00101111#8] =
    List.map some [.slaB, .slaC, .slaD, .slaE, .slaH, .slaL,
     .slaMemHL, .slaA, .sraB, .sraC, .sraD, .sraE,
     .sraH, .sraL, .sraMemHL, .sraA] := by decide +kernel

theorem test_decode_secondary_3 :
    List.map (fun b => word [0b11001011#8, b]) [0b00110000#8, 0b00110001#8, 0b00110010#8, 0b00110011#8, 0b00110100#8, 0b00110101#8, 0b00110110#8, 0b00110111#8,
     0b00111000#8, 0b00111001#8, 0b00111010#8, 0b00111011#8, 0b00111100#8, 0b00111101#8, 0b00111110#8, 0b00111111#8] =
    List.map some [.swapB, .swapC, .swapD, .swapE, .swapH, .swapL,
     .swapMemHL, .swapA, .srlB, .srlC, .srlD, .srlE,
     .srlH, .srlL, .srlMemHL, .srlA] := by decide +kernel

theorem test_decode_secondary_4 :
    List.map (fun b => word [0b11001011#8, b]) [0b01000000#8, 0b01000001#8, 0b01000010#8, 0b01000011#8, 0b01000100#8, 0b01000101#8, 0b01000110#8, 0b01000111#8,
     0b01001000#8, 0b01001001#8, 0b01001010#8, 0b01001011#8, 0b01001100#8, 0b01001101#8, 0b01001110#8, 0b01001111#8] =
    List.map some [.bit0_B, .bit0_C, .bit0_D, .bit0_E, .bit0_H, .bit0_L,
     .bit0_MemHL, .bit0_A, .bit1_B, .bit1_C, .bit1_D, .bit1_E,
     .bit1_H, .bit1_L, .bit1_MemHL, .bit1_A] := by decide +kernel

theorem test_decode_secondary_5 :
    List.map (fun b => word [0b11001011#8, b]) [0b01010000#8, 0b01010001#8, 0b01010010#8, 0b01010011#8, 0b01010100#8, 0b01010101#8, 0b01010110#8, 0b01010111#8,
     0b01011000#8, 0b01011001#8, 0b01011010#8, 0b01011011#8, 0b01011100#8, 0b01011101#8, 0b01011110#8, 0b01011111#8] =
    List.map some [.bit2_B, .bit2_C, .bit2_D, .bit2_E, .bit2_H, .bit2_L,
     .bit2_MemHL, .bit2_A, .bit3_B, .bit3_C, .bit3_D, .bit3_E,
     .bit3_H, .bit3_L, .bit3_MemHL, .bit3_A] := by decide +kernel

theorem test_decode_secondary_6 :
    List.map (fun b => word [0b11001011#8, b]) [0b01100000#8, 0b01100001#8, 0b01100010#8, 0b01100011#8, 0b01100100#8, 0b01100101#8, 0b01100110#8, 0b01100111#8,
     0b01101000#8, 0b01101001#8, 0b01101010#8, 0b01101011#8, 0b01101100#8, 0b01101101#8, 0b01101110#8, 0b01101111#8] =
    List.map some [.bit4_B, .bit4_C, .bit4_D, .bit4_E, .bit4_H, .bit4_L,
     .bit4_MemHL, .bit4_A, .bit5_B, .bit5_C, .bit5_D, .bit5_E,
     .bit5_H, .bit5_L, .bit5_MemHL, .bit5_A] := by decide +kernel

theorem test_decode_secondary_7 :
    List.map (fun b => word [0b11001011#8, b]) [0b01110000#8, 0b01110001#8, 0b01110010#8, 0b01110011#8, 0b01110100#8, 0b01110101#8, 0b01110110#8, 0b01110111#8,
     0b01111000#8, 0b01111001#8, 0b01111010#8, 0b01111011#8, 0b01111100#8, 0b01111101#8, 0b01111110#8, 0b01111111#8] =
    List.map some [.bit6_B, .bit6_C, .bit6_D, .bit6_E, .bit6_H, .bit6_L,
     .bit6_MemHL, .bit6_A, .bit7_B, .bit7_C, .bit7_D, .bit7_E,
     .bit7_H, .bit7_L, .bit7_MemHL, .bit7_A] := by decide +kernel

theorem test_decode_secondary_8 :
    List.map (fun b => word [0b11001011#8, b]) [0b10000000#8, 0b10000001#8, 0b10000010#8, 0b10000011#8, 0b10000100#8, 0b10000101#8, 0b10000110#8, 0b10000111#8,
     0b10001000#8, 0b10001001#8, 0b10001010#8, 0b10001011#8, 0b10001100#8, 0b10001101#8, 0b10001110#8, 0b10001111#8] =
    List.map some [.res0_B, .res0_C, .res0_D, .res0_E, .res0_H, .res0_L,
     .res0_MemHL, .res0_A, .res1_B, .res1_C, .res1_D, .res1_E,
     .res1_H, .res1_L, .res1_MemHL, .res1_A] := by decide +kernel

theorem test_decode_secondary_9 :
    List.map (fun b => word [0b11001011#8, b]) [0b10010000#8, 0b10010001#8, 0b10010010#8, 0b10010011#8, 0b10010100#8, 0b10010101#8, 0b10010110#8, 0b10010111#8,
     0b10011000#8, 0b10011001#8, 0b10011010#8, 0b10011011#8, 0b10011100#8, 0b10011101#8, 0b10011110#8, 0b10011111#8] =
    List.map some [.res2_B, .res2_C, .res2_D, .res2_E, .res2_H, .res2_L,
     .res2_MemHL, .res2_A, .res3_B, .res3_C, .res3_D, .res3_E,
     .res3_H, .res3_L, .res3_MemHL, .res3_A] := by decide +kernel

theorem test_decode_secondary_A :
    List.map (fun b => word [0b11001011#8, b]) [0b10100000#8, 0b10100001#8, 0b10100010#8, 0b10100011#8, 0b10100100#8, 0b10100101#8, 0b10100110#8, 0b10100111#8,
     0b10101000#8, 0b10101001#8, 0b10101010#8, 0b10101011#8, 0b10101100#8, 0b10101101#8, 0b10101110#8, 0b10101111#8] =
    List.map some [.res4_B, .res4_C, .res4_D, .res4_E, .res4_H, .res4_L,
     .res4_MemHL, .res4_A, .res5_B, .res5_C, .res5_D, .res5_E,
     .res5_H, .res5_L, .res5_MemHL, .res5_A] := by decide +kernel

theorem test_decode_secondary_B :
    List.map (fun b => word [0b11001011#8, b]) [0b10110000#8, 0b10110001#8, 0b10110010#8, 0b10110011#8, 0b10110100#8, 0b10110101#8, 0b10110110#8, 0b10110111#8,
     0b10111000#8, 0b10111001#8, 0b10111010#8, 0b10111011#8, 0b10111100#8, 0b10111101#8, 0b10111110#8, 0b10111111#8] =
    List.map some [.res6_B, .res6_C, .res6_D, .res6_E, .res6_H, .res6_L,
     .res6_MemHL, .res6_A, .res7_B, .res7_C, .res7_D, .res7_E,
     .res7_H, .res7_L, .res7_MemHL, .res7_A] := by decide +kernel

theorem test_decode_secondary_C :
    List.map (fun b => word [0b11001011#8, b]) [0b11000000#8, 0b11000001#8, 0b11000010#8, 0b11000011#8, 0b11000100#8, 0b11000101#8, 0b11000110#8, 0b11000111#8,
     0b11001000#8, 0b11001001#8, 0b11001010#8, 0b11001011#8, 0b11001100#8, 0b11001101#8, 0b11001110#8, 0b11001111#8] =
    List.map some [.set0_B, .set0_C, .set0_D, .set0_E, .set0_H, .set0_L,
     .set0_MemHL, .set0_A, .set1_B, .set1_C, .set1_D, .set1_E,
     .set1_H, .set1_L, .set1_MemHL, .set1_A] := by decide +kernel

theorem test_decode_secondary_D :
    List.map (fun b => word [0b11001011#8, b]) [0b11010000#8, 0b11010001#8, 0b11010010#8, 0b11010011#8, 0b11010100#8, 0b11010101#8, 0b11010110#8, 0b11010111#8,
     0b11011000#8, 0b11011001#8, 0b11011010#8, 0b11011011#8, 0b11011100#8, 0b11011101#8, 0b11011110#8, 0b11011111#8] =
    List.map some [.set2_B, .set2_C, .set2_D, .set2_E, .set2_H, .set2_L,
     .set2_MemHL, .set2_A, .set3_B, .set3_C, .set3_D, .set3_E,
     .set3_H, .set3_L, .set3_MemHL, .set3_A] := by decide +kernel

theorem test_decode_secondary_E :
    List.map (fun b => word [0b11001011#8, b]) [0b11100000#8, 0b11100001#8, 0b11100010#8, 0b11100011#8, 0b11100100#8, 0b11100101#8, 0b11100110#8, 0b11100111#8,
     0b11101000#8, 0b11101001#8, 0b11101010#8, 0b11101011#8, 0b11101100#8, 0b11101101#8, 0b11101110#8, 0b11101111#8] =
    List.map some [.set4_B, .set4_C, .set4_D, .set4_E, .set4_H, .set4_L,
     .set4_MemHL, .set4_A, .set5_B, .set5_C, .set5_D, .set5_E,
     .set5_H, .set5_L, .set5_MemHL, .set5_A] := by decide +kernel

theorem test_decode_secondary_F :
    List.map (fun b => word [0b11001011#8, b]) [0b11110000#8, 0b11110001#8, 0b11110010#8, 0b11110011#8, 0b11110100#8, 0b11110101#8, 0b11110110#8, 0b11110111#8,
     0b11111000#8, 0b11111001#8, 0b11111010#8, 0b11111011#8, 0b11111100#8, 0b11111101#8, 0b11111110#8, 0b11111111#8] =
    List.map some [.set6_B, .set6_C, .set6_D, .set6_E, .set6_H, .set6_L,
     .set6_MemHL, .set6_A, .set7_B, .set7_C, .set7_D, .set7_E,
     .set7_H, .set7_L, .set7_MemHL, .set7_A] := by decide +kernel

/-! ## One CPU step (95_test_vectors.md sections 2.1 to 2.8): the whole register file, the cost, and the bytes named -/

/-- The reset state with a 32 KiB ROM of zeros but for the code at 0x0100. -/
def machine (regs : Regs) (code : List Byte) : State :=
  { State.reset with
    regs := regs
    bus := { Bus.reset with rom := Memory.ofBytes 0x0100 code, romLen := 0x8000 } }

/-- With some bytes stored first. -/
def storing (s : State) : List (Word × Byte) → State
  | [] => s
  | (a, v) :: t => storing { s with bus := s.bus.write a v } t

/-- What one CPU step leaves: the registers, its cost, and the bytes at the given addresses. -/
def stepped (s : State) (at_ : List Word) : Option (Regs × Nat × List Byte) :=
  match cpuStep s with
  | .next t => some (t.regs, t.stepCost, at_.map t.bus.peek)
  | _ => none

/-- And what it leaves of `ime`, `ime_scheduled`, `halted`. -/
def control (s : State) : Option (Bool × Bool × Bool) :=
  match cpuStep s with
  | .next t => some (t.ime, t.imeScheduled, t.halted)
  | _ => none

/-- L1, R171: `LD B,A`. -/
theorem test_L1_LD_B_A :
    stepped (machine ⟨0x5A#8, 0xB0#8, 0x00#8, 0x13#8, 0x00#8, 0xD8#8, 0x01#8, 0x4D#8, 0xFFFE#16, 0x0100#16⟩ [0x47#8])
      [] =
    some (⟨0x5A#8, 0xB0#8, 0x5A#8, 0x13#8, 0x00#8, 0xD8#8, 0x01#8, 0x4D#8, 0xFFFE#16, 0x0101#16⟩, 4, []) := by decide +kernel

/-- L5, R173: `LD L,(HL)`. -/
theorem test_L5_LD_L_HL :
    stepped (storing (machine ⟨0x01#8, 0xB0#8, 0x00#8, 0x13#8, 0x00#8, 0xD8#8, 0xC1#8, 0x23#8, 0xFFFE#16, 0x0100#16⟩ [0x6E#8]) [(0xC123#16, 0x45#8)])
      [] =
    some (⟨0x01#8, 0xB0#8, 0x00#8, 0x13#8, 0x00#8, 0xD8#8, 0xC1#8, 0x45#8, 0xFFFE#16, 0x0101#16⟩, 8, []) := by decide +kernel

/-- L6, R174: `LD (HL),H`. -/
theorem test_L6_LD_HL_H :
    stepped (machine ⟨0x01#8, 0xB0#8, 0x00#8, 0x13#8, 0x00#8, 0xD8#8, 0xC2#8, 0x00#8, 0xFFFE#16, 0x0100#16⟩ [0x74#8])
      [0xC200#16] =
    some (⟨0x01#8, 0xB0#8, 0x00#8, 0x13#8, 0x00#8, 0xD8#8, 0xC2#8, 0x00#8, 0xFFFE#16, 0x0101#16⟩, 8, [0xC2#8]) := by decide +kernel

/-- L7, R175: `LD (HL),d8`. -/
theorem test_L7_LD_HL_d8 :
    stepped (machine ⟨0x01#8, 0xB0#8, 0x00#8, 0x13#8, 0x00#8, 0xD8#8, 0xFF#8, 0x80#8, 0xFFFE#16, 0x0100#16⟩ [0x36#8, 0xAB#8])
      [0xFF80#16] =
    some (⟨0x01#8, 0xB0#8, 0x00#8, 0x13#8, 0x00#8, 0xD8#8, 0xFF#8, 0x80#8, 0xFFFE#16, 0x0102#16⟩, 12, [0xAB#8]) := by decide +kernel

/-- L9, R177; 20_memory.md R94: `LD A,(DE)`. -/
theorem test_L9_LD_A_DE :
    stepped (machine ⟨0x01#8, 0xB0#8, 0x00#8, 0x13#8, 0xFE#8, 0xA0#8, 0x01#8, 0x4D#8, 0xFFFE#16, 0x0100#16⟩ [0x1A#8])
      [] =
    some (⟨0xFF#8, 0xB0#8, 0x00#8, 0x13#8, 0xFE#8, 0xA0#8, 0x01#8, 0x4D#8, 0xFFFE#16, 0x0101#16⟩, 8, []) := by decide +kernel

/-- L10, R178; echo, 20_memory.md R113: `LD (BC),A`. -/
theorem test_L10_LD_BC_A :
    stepped (machine ⟨0x99#8, 0xB0#8, 0xE0#8, 0x10#8, 0x00#8, 0xD8#8, 0x01#8, 0x4D#8, 0xFFFE#16, 0x0100#16⟩ [0x02#8])
      [0xC010#16, 0xE010#16] =
    some (⟨0x99#8, 0xB0#8, 0xE0#8, 0x10#8, 0x00#8, 0xD8#8, 0x01#8, 0x4D#8, 0xFFFE#16, 0x0101#16⟩, 8, [0x99#8, 0x99#8]) := by decide +kernel

/-- L12, R180: `LD A,(a16)`. -/
theorem test_L12_LD_A_a16 :
    stepped (storing (machine ⟨0x01#8, 0xB0#8, 0x00#8, 0x13#8, 0x00#8, 0xD8#8, 0x01#8, 0x4D#8, 0xFFFE#16, 0x0100#16⟩ [0xFA#8, 0x34#8, 0xC2#8]) [(0xC234#16, 0x5C#8)])
      [] =
    some (⟨0x5C#8, 0xB0#8, 0x00#8, 0x13#8, 0x00#8, 0xD8#8, 0x01#8, 0x4D#8, 0xFFFE#16, 0x0103#16⟩, 16, []) := by decide +kernel

/-- L13, R181: `LD (a16),A`. -/
theorem test_L13_LD_a16_A :
    stepped (machine ⟨0x1F#8, 0xB0#8, 0x00#8, 0x13#8, 0x00#8, 0xD8#8, 0x01#8, 0x4D#8, 0xFFFE#16, 0x0100#16⟩ [0xEA#8, 0xFF#8, 0xFF#8])
      [0xFFFF#16] =
    some (⟨0x1F#8, 0xB0#8, 0x00#8, 0x13#8, 0x00#8, 0xD8#8, 0x01#8, 0x4D#8, 0xFFFE#16, 0x0103#16⟩, 16, [0x1F#8]) := by decide +kernel

/-- L3, R172: `LD E,d8`. -/
theorem test_L3_LD_E_d8 :
    stepped (machine ⟨0x01#8, 0xB0#8, 0x00#8, 0x13#8, 0x00#8, 0xD8#8, 0x01#8, 0x4D#8, 0xFFFE#16, 0x0100#16⟩ [0x1E#8, 0xFF#8])
      [] =
    some (⟨0x01#8, 0xB0#8, 0x00#8, 0x13#8, 0x00#8, 0xFF#8, 0x01#8, 0x4D#8, 0xFFFE#16, 0x0102#16⟩, 8, []) := by decide +kernel

/-- L14, R182: `LDH A,(a8)`. -/
theorem test_L14_LDH_A_a8 :
    stepped ({ machine ⟨0x01#8, 0xB0#8, 0x00#8, 0x13#8, 0x00#8, 0xD8#8, 0x01#8, 0x4D#8, 0xFFFE#16, 0x0100#16⟩ [0xF0#8, 0x44#8] with bus := (machine ⟨0x01#8, 0xB0#8, 0x00#8, 0x13#8, 0x00#8, 0xD8#8, 0x01#8, 0x4D#8, 0xFFFE#16, 0x0100#16⟩ [0xF0#8, 0x44#8]).bus.setIo 0x44 0x90#8 })
      [] =
    some (⟨0x90#8, 0xB0#8, 0x00#8, 0x13#8, 0x00#8, 0xD8#8, 0x01#8, 0x4D#8, 0xFFFE#16, 0x0102#16⟩, 12, []) := by decide +kernel

/-- L15, R183: `LDH (a8),A`. -/
theorem test_L15_LDH_a8_A :
    stepped (machine ⟨0x42#8, 0xB0#8, 0x00#8, 0x13#8, 0x00#8, 0xD8#8, 0x01#8, 0x4D#8, 0xFFFE#16, 0x0100#16⟩ [0xE0#8, 0x80#8])
      [0xFF80#16] =
    some (⟨0x42#8, 0xB0#8, 0x00#8, 0x13#8, 0x00#8, 0xD8#8, 0x01#8, 0x4D#8, 0xFFFE#16, 0x0102#16⟩, 12, [0x42#8]) := by decide +kernel

/-- L16, R184: `LD A,(C)`. -/
theorem test_L16_LD_A_C :
    stepped (machine ⟨0x01#8, 0xB0#8, 0x00#8, 0x41#8, 0x00#8, 0xD8#8, 0x01#8, 0x4D#8, 0xFFFE#16, 0x0100#16⟩ [0xF2#8])
      [] =
    some (⟨0x06#8, 0xB0#8, 0x00#8, 0x41#8, 0x00#8, 0xD8#8, 0x01#8, 0x4D#8, 0xFFFE#16, 0x0101#16⟩, 8, []) := by decide +kernel

/-- L17, R185; STAT write keeps bits 2:0, 20_memory.md R116: `LD (C),A`. -/
theorem test_L17_LD_C_A :
    stepped (machine ⟨0xFF#8, 0xB0#8, 0x00#8, 0x41#8, 0x00#8, 0xD8#8, 0x01#8, 0x4D#8, 0xFFFE#16, 0x0100#16⟩ [0xE2#8])
      [0xFF41#16] =
    some (⟨0xFF#8, 0xB0#8, 0x00#8, 0x41#8, 0x00#8, 0xD8#8, 0x01#8, 0x4D#8, 0xFFFE#16, 0x0101#16⟩, 8, [0xFE#8]) := by decide +kernel

/-- L18, R186: `LD (HL+),A`. -/
theorem test_L18_LD_HL_A :
    stepped (machine ⟨0x11#8, 0xB0#8, 0x00#8, 0x13#8, 0x00#8, 0xD8#8, 0xCF#8, 0xFF#8, 0xFFFE#16, 0x0100#16⟩ [0x22#8])
      [0xCFFF#16] =
    some (⟨0x11#8, 0xB0#8, 0x00#8, 0x13#8, 0x00#8, 0xD8#8, 0xD0#8, 0x00#8, 0xFFFE#16, 0x0101#16⟩, 8, [0x11#8]) := by decide +kernel

/-- L20, R187: `LD (HL-),A`. -/
theorem test_L20_LD_HL_A :
    stepped (machine ⟨0x22#8, 0xB0#8, 0x00#8, 0x13#8, 0x00#8, 0xD8#8, 0xC0#8, 0x00#8, 0xFFFE#16, 0x0100#16⟩ [0x32#8])
      [0xC000#16] =
    some (⟨0x22#8, 0xB0#8, 0x00#8, 0x13#8, 0x00#8, 0xD8#8, 0xBF#8, 0xFF#8, 0xFFFE#16, 0x0101#16⟩, 8, [0x22#8]) := by decide +kernel

/-- L21, R188: `LD A,(HL+)`. -/
theorem test_L21_LD_A_HL :
    stepped (storing (machine ⟨0x01#8, 0xB0#8, 0x00#8, 0x13#8, 0x00#8, 0xD8#8, 0xC0#8, 0x05#8, 0xFFFE#16, 0x0100#16⟩ [0x2A#8]) [(0xC005#16, 0x33#8)])
      [] =
    some (⟨0x33#8, 0xB0#8, 0x00#8, 0x13#8, 0x00#8, 0xD8#8, 0xC0#8, 0x06#8, 0xFFFE#16, 0x0101#16⟩, 8, []) := by decide +kernel

/-- L22, R189: `LD A,(HL-)`. -/
theorem test_L22_LD_A_HL :
    stepped (machine ⟨0x01#8, 0xB0#8, 0x00#8, 0x13#8, 0x00#8, 0xD8#8, 0x00#8, 0x00#8, 0xFFFE#16, 0x0100#16⟩ [0x3A#8])
      [] =
    some (⟨0x00#8, 0xB0#8, 0x00#8, 0x13#8, 0x00#8, 0xD8#8, 0xFF#8, 0xFF#8, 0xFFFE#16, 0x0101#16⟩, 8, []) := by decide +kernel

/-- W1, R201: `LD BC,d16`. -/
theorem test_W1_LD_BC_d16 :
    stepped (machine ⟨0x01#8, 0xB0#8, 0x00#8, 0x13#8, 0x00#8, 0xD8#8, 0x01#8, 0x4D#8, 0xFFFE#16, 0x0100#16⟩ [0x01#8, 0x34#8, 0x12#8])
      [] =
    some (⟨0x01#8, 0xB0#8, 0x12#8, 0x34#8, 0x00#8, 0xD8#8, 0x01#8, 0x4D#8, 0xFFFE#16, 0x0103#16⟩, 12, []) := by decide +kernel

/-- W3, R202: `LD (a16),SP`. -/
theorem test_W3_LD_a16_SP :
    stepped (machine ⟨0x01#8, 0xB0#8, 0x00#8, 0x13#8, 0x00#8, 0xD8#8, 0x01#8, 0x4D#8, 0xFFF8#16, 0x0100#16⟩ [0x08#8, 0x00#8, 0xC1#8])
      [0xC100#16, 0xC101#16] =
    some (⟨0x01#8, 0xB0#8, 0x00#8, 0x13#8, 0x00#8, 0xD8#8, 0x01#8, 0x4D#8, 0xFFF8#16, 0x0103#16⟩, 20, [0xF8#8, 0xFF#8]) := by decide +kernel

/-- W4, R203: `LD SP,HL`. -/
theorem test_W4_LD_SP_HL :
    stepped (machine ⟨0x01#8, 0xB0#8, 0x00#8, 0x13#8, 0x00#8, 0xD8#8, 0xDF#8, 0xFF#8, 0xFFFE#16, 0x0100#16⟩ [0xF9#8])
      [] =
    some (⟨0x01#8, 0xB0#8, 0x00#8, 0x13#8, 0x00#8, 0xD8#8, 0xDF#8, 0xFF#8, 0xDFFF#16, 0x0101#16⟩, 8, []) := by decide +kernel

/-- W7, R204: `LD HL,SP+r8`. -/
theorem test_W7_LD_HL_SP_r8 :
    stepped (machine ⟨0x01#8, 0x00#8, 0x00#8, 0x13#8, 0x00#8, 0xD8#8, 0x01#8, 0x4D#8, 0x0001#16, 0x0100#16⟩ [0xF8#8, 0xFF#8])
      [] =
    some (⟨0x01#8, 0x30#8, 0x00#8, 0x13#8, 0x00#8, 0xD8#8, 0x00#8, 0x00#8, 0x0001#16, 0x0102#16⟩, 12, []) := by decide +kernel

/-- W10, R205: `PUSH BC`. -/
theorem test_W10_PUSH_BC :
    stepped (machine ⟨0x01#8, 0xB0#8, 0x12#8, 0x34#8, 0x00#8, 0xD8#8, 0x01#8, 0x4D#8, 0xFFFE#16, 0x0100#16⟩ [0xC5#8])
      [0xFFFD#16, 0xFFFC#16] =
    some (⟨0x01#8, 0xB0#8, 0x12#8, 0x34#8, 0x00#8, 0xD8#8, 0x01#8, 0x4D#8, 0xFFFC#16, 0x0101#16⟩, 16, [0x12#8, 0x34#8]) := by decide +kernel

/-- W12, R205: `PUSH HL`. -/
theorem test_W12_PUSH_HL :
    stepped (machine ⟨0x01#8, 0xB0#8, 0x00#8, 0x13#8, 0x00#8, 0xD8#8, 0xAB#8, 0xCD#8, 0x0001#16, 0x0100#16⟩ [0xE5#8])
      [0x0000#16, 0xFFFF#16] =
    some (⟨0x01#8, 0xB0#8, 0x00#8, 0x13#8, 0x00#8, 0xD8#8, 0xAB#8, 0xCD#8, 0xFFFF#16, 0x0101#16⟩, 16, [0x00#8, 0xCD#8]) := by decide +kernel

/-- W13, R206: `POP DE`. -/
theorem test_W13_POP_DE :
    stepped (storing (machine ⟨0x01#8, 0xB0#8, 0x00#8, 0x13#8, 0x00#8, 0xD8#8, 0x01#8, 0x4D#8, 0xC000#16, 0x0100#16⟩ [0xD1#8]) [(0xC000#16, 0x78#8), (0xC001#16, 0x56#8)])
      [] =
    some (⟨0x01#8, 0xB0#8, 0x00#8, 0x13#8, 0x56#8, 0x78#8, 0x01#8, 0x4D#8, 0xC002#16, 0x0101#16⟩, 12, []) := by decide +kernel

/-- W14, R207: `POP AF`. -/
theorem test_W14_POP_AF :
    stepped (storing (machine ⟨0x01#8, 0xB0#8, 0x00#8, 0x13#8, 0x00#8, 0xD8#8, 0x01#8, 0x4D#8, 0xC000#16, 0x0100#16⟩ [0xF1#8]) [(0xC000#16, 0xFF#8), (0xC001#16, 0x12#8)])
      [] =
    some (⟨0x12#8, 0xF0#8, 0x00#8, 0x13#8, 0x00#8, 0xD8#8, 0x01#8, 0x4D#8, 0xC002#16, 0x0101#16⟩, 12, []) := by decide +kernel

/-- W17, R206: `POP HL`. -/
theorem test_W17_POP_HL :
    stepped (storing (machine ⟨0x01#8, 0xB0#8, 0x00#8, 0x13#8, 0x00#8, 0xD8#8, 0x01#8, 0x4D#8, 0xFFFF#16, 0x0100#16⟩ [0xE1#8]) [(0xFFFF#16, 0x1F#8)])
      [] =
    some (⟨0x01#8, 0xB0#8, 0x00#8, 0x13#8, 0x00#8, 0xD8#8, 0x00#8, 0x1F#8, 0x0001#16, 0x0101#16⟩, 12, []) := by decide +kernel

/-- A1, R216: `ADD A,B`. -/
theorem test_A1_ADD_A_B :
    stepped (machine ⟨0x3A#8, 0x00#8, 0xC6#8, 0x13#8, 0x00#8, 0xD8#8, 0x01#8, 0x4D#8, 0xFFFE#16, 0x0100#16⟩ [0x80#8])
      [] =
    some (⟨0x00#8, 0xB0#8, 0xC6#8, 0x13#8, 0x00#8, 0xD8#8, 0x01#8, 0x4D#8, 0xFFFE#16, 0x0101#16⟩, 4, []) := by decide +kernel

/-- A4, R216: `ADD A,(HL)`. -/
theorem test_A4_ADD_A_HL :
    stepped (storing (machine ⟨0xFF#8, 0x00#8, 0x00#8, 0x13#8, 0x00#8, 0xD8#8, 0xC0#8, 0x00#8, 0xFFFE#16, 0x0100#16⟩ [0x86#8]) [(0xC000#16, 0xFF#8)])
      [] =
    some (⟨0xFE#8, 0x30#8, 0x00#8, 0x13#8, 0x00#8, 0xD8#8, 0xC0#8, 0x00#8, 0xFFFE#16, 0x0101#16⟩, 8, []) := by decide +kernel

/-- A7, R217: `ADC A,d8`. -/
theorem test_A7_ADC_A_d8 :
    stepped (machine ⟨0x00#8, 0x10#8, 0x00#8, 0x13#8, 0x00#8, 0xD8#8, 0x01#8, 0x4D#8, 0xFFFE#16, 0x0100#16⟩ [0xCE#8, 0xFF#8])
      [] =
    some (⟨0x00#8, 0xB0#8, 0x00#8, 0x13#8, 0x00#8, 0xD8#8, 0x01#8, 0x4D#8, 0xFFFE#16, 0x0102#16⟩, 8, []) := by decide +kernel

/-- A12, R218: `SUB (HL)`. -/
theorem test_A12_SUB_HL :
    stepped (storing (machine ⟨0x3E#8, 0x00#8, 0x00#8, 0x13#8, 0x00#8, 0xD8#8, 0xC0#8, 0x00#8, 0xFFFE#16, 0x0100#16⟩ [0x96#8]) [(0xC000#16, 0x40#8)])
      [] =
    some (⟨0xFE#8, 0x50#8, 0x00#8, 0x13#8, 0x00#8, 0xD8#8, 0xC0#8, 0x00#8, 0xFFFE#16, 0x0101#16⟩, 8, []) := by decide +kernel

/-- A18, R219: `SBC A,d8`. -/
theorem test_A18_SBC_A_d8 :
    stepped (machine ⟨0x10#8, 0x10#8, 0x00#8, 0x13#8, 0x00#8, 0xD8#8, 0x01#8, 0x4D#8, 0xFFFE#16, 0x0100#16⟩ [0xDE#8, 0x0F#8])
      [] =
    some (⟨0x00#8, 0xE0#8, 0x00#8, 0x13#8, 0x00#8, 0xD8#8, 0x01#8, 0x4D#8, 0xFFFE#16, 0x0102#16⟩, 8, []) := by decide +kernel

/-- A20, R220: `AND L`. -/
theorem test_A20_AND_L :
    stepped (machine ⟨0x5A#8, 0x50#8, 0x00#8, 0x13#8, 0x00#8, 0xD8#8, 0x01#8, 0x3F#8, 0xFFFE#16, 0x0100#16⟩ [0xA5#8])
      [] =
    some (⟨0x1A#8, 0x20#8, 0x00#8, 0x13#8, 0x00#8, 0xD8#8, 0x01#8, 0x3F#8, 0xFFFE#16, 0x0101#16⟩, 4, []) := by decide +kernel

/-- A22, R221: `XOR A`. -/
theorem test_A22_XOR_A :
    stepped (machine ⟨0x5A#8, 0xF0#8, 0x00#8, 0x13#8, 0x00#8, 0xD8#8, 0x01#8, 0x4D#8, 0xFFFE#16, 0x0100#16⟩ [0xAF#8])
      [] =
    some (⟨0x00#8, 0x80#8, 0x00#8, 0x13#8, 0x00#8, 0xD8#8, 0x01#8, 0x4D#8, 0xFFFE#16, 0x0101#16⟩, 4, []) := by decide +kernel

/-- A24, R222: `OR (HL)`. -/
theorem test_A24_OR_HL :
    stepped (storing (machine ⟨0x5A#8, 0xF0#8, 0x00#8, 0x13#8, 0x00#8, 0xD8#8, 0xC0#8, 0x00#8, 0xFFFE#16, 0x0100#16⟩ [0xB6#8]) [(0xC000#16, 0x0F#8)])
      [] =
    some (⟨0x5F#8, 0x00#8, 0x00#8, 0x13#8, 0x00#8, 0xD8#8, 0xC0#8, 0x00#8, 0xFFFE#16, 0x0101#16⟩, 8, []) := by decide +kernel

/-- A28, R223: `CP (HL)`. -/
theorem test_A28_CP_HL :
    stepped (storing (machine ⟨0x3C#8, 0x00#8, 0x00#8, 0x13#8, 0x00#8, 0xD8#8, 0xC0#8, 0x00#8, 0xFFFE#16, 0x0100#16⟩ [0xBE#8]) [(0xC000#16, 0x40#8)])
      [] =
    some (⟨0x3C#8, 0x50#8, 0x00#8, 0x13#8, 0x00#8, 0xD8#8, 0xC0#8, 0x00#8, 0xFFFE#16, 0x0101#16⟩, 8, []) := by decide +kernel

/-- A29, R224: `INC A`. -/
theorem test_A29_INC_A :
    stepped (machine ⟨0xFF#8, 0x10#8, 0x00#8, 0x13#8, 0x00#8, 0xD8#8, 0x01#8, 0x4D#8, 0xFFFE#16, 0x0100#16⟩ [0x3C#8])
      [] =
    some (⟨0x00#8, 0xB0#8, 0x00#8, 0x13#8, 0x00#8, 0xD8#8, 0x01#8, 0x4D#8, 0xFFFE#16, 0x0101#16⟩, 4, []) := by decide +kernel

/-- A34, R227: `DEC (HL)`. -/
theorem test_A34_DEC_HL :
    stepped (storing (machine ⟨0x01#8, 0x00#8, 0x00#8, 0x13#8, 0x00#8, 0xD8#8, 0xC0#8, 0x00#8, 0xFFFE#16, 0x0100#16⟩ [0x35#8]) [(0xC000#16, 0x10#8)])
      [0xC000#16] =
    some (⟨0x01#8, 0x60#8, 0x00#8, 0x13#8, 0x00#8, 0xD8#8, 0xC0#8, 0x00#8, 0xFFFE#16, 0x0101#16⟩, 12, [0x0F#8]) := by decide +kernel

/-- A35, R225: `INC (HL)`. -/
theorem test_A35_INC_HL :
    stepped (machine ⟨0x01#8, 0x00#8, 0x00#8, 0x13#8, 0x00#8, 0xD8#8, 0x01#8, 0x50#8, 0xFFFE#16, 0x0100#16⟩ [0x34#8])
      [0x0150#16] =
    some (⟨0x01#8, 0x00#8, 0x00#8, 0x13#8, 0x00#8, 0xD8#8, 0x01#8, 0x50#8, 0xFFFE#16, 0x0101#16⟩, 12, [0x00#8]) := by decide +kernel

/-- A36, R229: `CPL`. -/
theorem test_A36_CPL :
    stepped (machine ⟨0x35#8, 0x90#8, 0x00#8, 0x13#8, 0x00#8, 0xD8#8, 0x01#8, 0x4D#8, 0xFFFE#16, 0x0100#16⟩ [0x2F#8])
      [] =
    some (⟨0xCA#8, 0xF0#8, 0x00#8, 0x13#8, 0x00#8, 0xD8#8, 0x01#8, 0x4D#8, 0xFFFE#16, 0x0101#16⟩, 4, []) := by decide +kernel

/-- A37, R230: `SCF`. -/
theorem test_A37_SCF :
    stepped (machine ⟨0x01#8, 0xE0#8, 0x00#8, 0x13#8, 0x00#8, 0xD8#8, 0x01#8, 0x4D#8, 0xFFFE#16, 0x0100#16⟩ [0x37#8])
      [] =
    some (⟨0x01#8, 0x90#8, 0x00#8, 0x13#8, 0x00#8, 0xD8#8, 0x01#8, 0x4D#8, 0xFFFE#16, 0x0101#16⟩, 4, []) := by decide +kernel

/-- A38, R231: `CCF`. -/
theorem test_A38_CCF :
    stepped (machine ⟨0x01#8, 0xF0#8, 0x00#8, 0x13#8, 0x00#8, 0xD8#8, 0x01#8, 0x4D#8, 0xFFFE#16, 0x0100#16⟩ [0x3F#8])
      [] =
    some (⟨0x01#8, 0x80#8, 0x00#8, 0x13#8, 0x00#8, 0xD8#8, 0x01#8, 0x4D#8, 0xFFFE#16, 0x0101#16⟩, 4, []) := by decide +kernel

/-- X2, R251: `ADD HL,HL`. -/
theorem test_X2_ADD_HL_HL :
    stepped (machine ⟨0x01#8, 0x00#8, 0x00#8, 0x13#8, 0x00#8, 0xD8#8, 0x8A#8, 0x23#8, 0xFFFE#16, 0x0100#16⟩ [0x29#8])
      [] =
    some (⟨0x01#8, 0x30#8, 0x00#8, 0x13#8, 0x00#8, 0xD8#8, 0x14#8, 0x46#8, 0xFFFE#16, 0x0101#16⟩, 8, []) := by decide +kernel

/-- X4, R251: `ADD HL,DE`. -/
theorem test_X4_ADD_HL_DE :
    stepped (machine ⟨0x01#8, 0x50#8, 0x00#8, 0x13#8, 0x00#8, 0x01#8, 0x0F#8, 0xFF#8, 0xFFFE#16, 0x0100#16⟩ [0x19#8])
      [] =
    some (⟨0x01#8, 0x20#8, 0x00#8, 0x13#8, 0x00#8, 0x01#8, 0x10#8, 0x00#8, 0xFFFE#16, 0x0101#16⟩, 8, []) := by decide +kernel

/-- X5, R252: `INC BC`. -/
theorem test_X5_INC_BC :
    stepped (machine ⟨0x01#8, 0x00#8, 0xFF#8, 0xFF#8, 0x00#8, 0xD8#8, 0x01#8, 0x4D#8, 0xFFFE#16, 0x0100#16⟩ [0x03#8])
      [] =
    some (⟨0x01#8, 0x00#8, 0x00#8, 0x00#8, 0x00#8, 0xD8#8, 0x01#8, 0x4D#8, 0xFFFE#16, 0x0101#16⟩, 8, []) := by decide +kernel

/-- X7, R253: `DEC DE`. -/
theorem test_X7_DEC_DE :
    stepped (machine ⟨0x01#8, 0xF0#8, 0x00#8, 0x13#8, 0x00#8, 0x00#8, 0x01#8, 0x4D#8, 0xFFFE#16, 0x0100#16⟩ [0x1B#8])
      [] =
    some (⟨0x01#8, 0xF0#8, 0x00#8, 0x13#8, 0xFF#8, 0xFF#8, 0x01#8, 0x4D#8, 0xFFFE#16, 0x0101#16⟩, 8, []) := by decide +kernel

/-- X11, R254: `ADD SP,r8`. -/
theorem test_X11_ADD_SP_r8 :
    stepped (machine ⟨0x01#8, 0x00#8, 0x00#8, 0x13#8, 0x00#8, 0xD8#8, 0x01#8, 0x4D#8, 0xD0FF#16, 0x0100#16⟩ [0xE8#8, 0xFF#8])
      [] =
    some (⟨0x01#8, 0x30#8, 0x00#8, 0x13#8, 0x00#8, 0xD8#8, 0x01#8, 0x4D#8, 0xD0FE#16, 0x0102#16⟩, 16, []) := by decide +kernel

/-- B2, R261: `RLCA`. -/
theorem test_B2_RLCA :
    stepped (machine ⟨0x00#8, 0xF0#8, 0x00#8, 0x13#8, 0x00#8, 0xD8#8, 0x01#8, 0x4D#8, 0xFFFE#16, 0x0100#16⟩ [0x07#8])
      [] =
    some (⟨0x00#8, 0x00#8, 0x00#8, 0x13#8, 0x00#8, 0xD8#8, 0x01#8, 0x4D#8, 0xFFFE#16, 0x0101#16⟩, 4, []) := by decide +kernel

/-- B3, R262: `RRCA`. -/
theorem test_B3_RRCA :
    stepped (machine ⟨0x3B#8, 0x00#8, 0x00#8, 0x13#8, 0x00#8, 0xD8#8, 0x01#8, 0x4D#8, 0xFFFE#16, 0x0100#16⟩ [0x0F#8])
      [] =
    some (⟨0x9D#8, 0x10#8, 0x00#8, 0x13#8, 0x00#8, 0xD8#8, 0x01#8, 0x4D#8, 0xFFFE#16, 0x0101#16⟩, 4, []) := by decide +kernel

/-- B4, R263: `RLA`. -/
theorem test_B4_RLA :
    stepped (machine ⟨0x95#8, 0x10#8, 0x00#8, 0x13#8, 0x00#8, 0xD8#8, 0x01#8, 0x4D#8, 0xFFFE#16, 0x0100#16⟩ [0x17#8])
      [] =
    some (⟨0x2B#8, 0x10#8, 0x00#8, 0x13#8, 0x00#8, 0xD8#8, 0x01#8, 0x4D#8, 0xFFFE#16, 0x0101#16⟩, 4, []) := by decide +kernel

/-- B7, R264: `RRA`. -/
theorem test_B7_RRA :
    stepped (machine ⟨0x00#8, 0x10#8, 0x00#8, 0x13#8, 0x00#8, 0xD8#8, 0x01#8, 0x4D#8, 0xFFFE#16, 0x0100#16⟩ [0x1F#8])
      [] =
    some (⟨0x80#8, 0x00#8, 0x00#8, 0x13#8, 0x00#8, 0xD8#8, 0x01#8, 0x4D#8, 0xFFFE#16, 0x0101#16⟩, 4, []) := by decide +kernel

/-- B9, R266: `RLC (HL)`. -/
theorem test_B9_RLC_HL :
    stepped (storing (machine ⟨0x01#8, 0x10#8, 0x00#8, 0x13#8, 0x00#8, 0xD8#8, 0xC0#8, 0x00#8, 0xFFFE#16, 0x0100#16⟩ [0xCB#8, 0x06#8]) [(0xC000#16, 0x00#8)])
      [0xC000#16] =
    some (⟨0x01#8, 0x80#8, 0x00#8, 0x13#8, 0x00#8, 0xD8#8, 0xC0#8, 0x00#8, 0xFFFE#16, 0x0102#16⟩, 16, [0x00#8]) := by decide +kernel

/-- B10, R267: `RRC C`. -/
theorem test_B10_RRC_C :
    stepped (machine ⟨0x01#8, 0x00#8, 0x00#8, 0x01#8, 0x00#8, 0xD8#8, 0x01#8, 0x4D#8, 0xFFFE#16, 0x0100#16⟩ [0xCB#8, 0x09#8])
      [] =
    some (⟨0x01#8, 0x10#8, 0x00#8, 0x80#8, 0x00#8, 0xD8#8, 0x01#8, 0x4D#8, 0xFFFE#16, 0x0102#16⟩, 8, []) := by decide +kernel

/-- B11, R268: `RL L`. -/
theorem test_B11_RL_L :
    stepped (machine ⟨0x01#8, 0x00#8, 0x00#8, 0x13#8, 0x00#8, 0xD8#8, 0x01#8, 0x80#8, 0xFFFE#16, 0x0100#16⟩ [0xCB#8, 0x15#8])
      [] =
    some (⟨0x01#8, 0x90#8, 0x00#8, 0x13#8, 0x00#8, 0xD8#8, 0x01#8, 0x00#8, 0xFFFE#16, 0x0102#16⟩, 8, []) := by decide +kernel

/-- B14, R269: `RR (HL)`. -/
theorem test_B14_RR_HL :
    stepped (storing (machine ⟨0x01#8, 0x10#8, 0x00#8, 0x13#8, 0x00#8, 0xD8#8, 0xC0#8, 0x00#8, 0xFFFE#16, 0x0100#16⟩ [0xCB#8, 0x1E#8]) [(0xC000#16, 0x8A#8)])
      [0xC000#16] =
    some (⟨0x01#8, 0x00#8, 0x00#8, 0x13#8, 0x00#8, 0xD8#8, 0xC0#8, 0x00#8, 0xFFFE#16, 0x0102#16⟩, 16, [0xC5#8]) := by decide +kernel

/-- B15, R270: `SLA D`. -/
theorem test_B15_SLA_D :
    stepped (machine ⟨0x01#8, 0x00#8, 0x00#8, 0x13#8, 0x80#8, 0xD8#8, 0x01#8, 0x4D#8, 0xFFFE#16, 0x0100#16⟩ [0xCB#8, 0x22#8])
      [] =
    some (⟨0x01#8, 0x90#8, 0x00#8, 0x13#8, 0x00#8, 0xD8#8, 0x01#8, 0x4D#8, 0xFFFE#16, 0x0102#16⟩, 8, []) := by decide +kernel

/-- B17, R271: `SRA A`. -/
theorem test_B17_SRA_A :
    stepped (machine ⟨0x8A#8, 0x00#8, 0x00#8, 0x13#8, 0x00#8, 0xD8#8, 0x01#8, 0x4D#8, 0xFFFE#16, 0x0100#16⟩ [0xCB#8, 0x2F#8])
      [] =
    some (⟨0xC5#8, 0x00#8, 0x00#8, 0x13#8, 0x00#8, 0xD8#8, 0x01#8, 0x4D#8, 0xFFFE#16, 0x0102#16⟩, 8, []) := by decide +kernel

/-- B19, R272: `SWAP A`. -/
theorem test_B19_SWAP_A :
    stepped (machine ⟨0xF1#8, 0xF0#8, 0x00#8, 0x13#8, 0x00#8, 0xD8#8, 0x01#8, 0x4D#8, 0xFFFE#16, 0x0100#16⟩ [0xCB#8, 0x37#8])
      [] =
    some (⟨0x1F#8, 0x00#8, 0x00#8, 0x13#8, 0x00#8, 0xD8#8, 0x01#8, 0x4D#8, 0xFFFE#16, 0x0102#16⟩, 8, []) := by decide +kernel

/-- B21, R273: `SRL A`. -/
theorem test_B21_SRL_A :
    stepped (machine ⟨0x01#8, 0x00#8, 0x00#8, 0x13#8, 0x00#8, 0xD8#8, 0x01#8, 0x4D#8, 0xFFFE#16, 0x0100#16⟩ [0xCB#8, 0x3F#8])
      [] =
    some (⟨0x00#8, 0x90#8, 0x00#8, 0x13#8, 0x00#8, 0xD8#8, 0x01#8, 0x4D#8, 0xFFFE#16, 0x0102#16⟩, 8, []) := by decide +kernel

/-- B25, R274: `BIT 0,(HL)`. -/
theorem test_B25_BIT_0_HL :
    stepped (storing (machine ⟨0x01#8, 0x40#8, 0x00#8, 0x13#8, 0x00#8, 0xD8#8, 0xC0#8, 0x00#8, 0xFFFE#16, 0x0100#16⟩ [0xCB#8, 0x46#8]) [(0xC000#16, 0xFE#8)])
      [] =
    some (⟨0x01#8, 0xA0#8, 0x00#8, 0x13#8, 0x00#8, 0xD8#8, 0xC0#8, 0x00#8, 0xFFFE#16, 0x0102#16⟩, 12, []) := by decide +kernel

/-- B26, R275: `RES 7,(HL)`. -/
theorem test_B26_RES_7_HL :
    stepped (storing (machine ⟨0x01#8, 0xF0#8, 0x00#8, 0x13#8, 0x00#8, 0xD8#8, 0xC0#8, 0x00#8, 0xFFFE#16, 0x0100#16⟩ [0xCB#8, 0xBE#8]) [(0xC000#16, 0xFF#8)])
      [0xC000#16] =
    some (⟨0x01#8, 0xF0#8, 0x00#8, 0x13#8, 0x00#8, 0xD8#8, 0xC0#8, 0x00#8, 0xFFFE#16, 0x0102#16⟩, 16, [0x7F#8]) := by decide +kernel

/-- B30, R276 on DIV: read 0x37, write resets DIV, 60_exceptions.md R361: `SET 0,(HL)`. -/
theorem test_B30_SET_0_HL :
    stepped ({ machine ⟨0x01#8, 0xB0#8, 0x00#8, 0x13#8, 0x00#8, 0xD8#8, 0xFF#8, 0x04#8, 0xFFFE#16, 0x0100#16⟩ [0xCB#8, 0xC6#8] with bus := (machine ⟨0x01#8, 0xB0#8, 0x00#8, 0x13#8, 0x00#8, 0xD8#8, 0xFF#8, 0x04#8, 0xFFFE#16, 0x0100#16⟩ [0xCB#8, 0xC6#8]).bus.setIo 0x04 0x37#8 })
      [0xFF04#16] =
    some (⟨0x01#8, 0xB0#8, 0x00#8, 0x13#8, 0x00#8, 0xD8#8, 0xFF#8, 0x04#8, 0xFFFE#16, 0x0102#16⟩, 16, [0x00#8]) := by decide +kernel

/-- J1, R291: `JP a16`. -/
theorem test_J1_JP_a16 :
    stepped (machine ⟨0x01#8, 0xB0#8, 0x00#8, 0x13#8, 0x00#8, 0xD8#8, 0x01#8, 0x4D#8, 0xFFFE#16, 0x0100#16⟩ [0xC3#8, 0x50#8, 0x01#8])
      [] =
    some (⟨0x01#8, 0xB0#8, 0x00#8, 0x13#8, 0x00#8, 0xD8#8, 0x01#8, 0x4D#8, 0xFFFE#16, 0x0150#16⟩, 16, []) := by decide +kernel

/-- J2, R292: `JP NZ,a16`. -/
theorem test_J2_JP_NZ_a16 :
    stepped (machine ⟨0x01#8, 0x80#8, 0x00#8, 0x13#8, 0x00#8, 0xD8#8, 0x01#8, 0x4D#8, 0xFFFE#16, 0x0100#16⟩ [0xC2#8, 0x00#8, 0x80#8])
      [] =
    some (⟨0x01#8, 0x80#8, 0x00#8, 0x13#8, 0x00#8, 0xD8#8, 0x01#8, 0x4D#8, 0xFFFE#16, 0x0103#16⟩, 12, []) := by decide +kernel

/-- J4, R292: `JP C,a16`. -/
theorem test_J4_JP_C_a16 :
    stepped (machine ⟨0x01#8, 0x10#8, 0x00#8, 0x13#8, 0x00#8, 0xD8#8, 0x01#8, 0x4D#8, 0xFFFE#16, 0x0100#16⟩ [0xDA#8, 0x00#8, 0x02#8])
      [] =
    some (⟨0x01#8, 0x10#8, 0x00#8, 0x13#8, 0x00#8, 0xD8#8, 0x01#8, 0x4D#8, 0xFFFE#16, 0x0200#16⟩, 16, []) := by decide +kernel

/-- J5, R293: `JP (HL)`. -/
theorem test_J5_JP_HL :
    stepped (machine ⟨0x01#8, 0xB0#8, 0x00#8, 0x13#8, 0x00#8, 0xD8#8, 0xC0#8, 0x00#8, 0xFFFE#16, 0x0100#16⟩ [0xE9#8])
      [] =
    some (⟨0x01#8, 0xB0#8, 0x00#8, 0x13#8, 0x00#8, 0xD8#8, 0xC0#8, 0x00#8, 0xFFFE#16, 0xC000#16⟩, 4, []) := by decide +kernel

/-- J8, R294: `JR r8`. -/
theorem test_J8_JR_r8 :
    stepped (machine ⟨0x01#8, 0xB0#8, 0x00#8, 0x13#8, 0x00#8, 0xD8#8, 0x01#8, 0x4D#8, 0xFFFE#16, 0x0100#16⟩ [0x18#8, 0x80#8])
      [] =
    some (⟨0x01#8, 0xB0#8, 0x00#8, 0x13#8, 0x00#8, 0xD8#8, 0x01#8, 0x4D#8, 0xFFFE#16, 0x0082#16⟩, 12, []) := by decide +kernel

/-- J10, R295: `JR Z,r8`. -/
theorem test_J10_JR_Z_r8 :
    stepped (machine ⟨0x01#8, 0x00#8, 0x00#8, 0x13#8, 0x00#8, 0xD8#8, 0x01#8, 0x4D#8, 0xFFFE#16, 0x0100#16⟩ [0x28#8, 0x7F#8])
      [] =
    some (⟨0x01#8, 0x00#8, 0x00#8, 0x13#8, 0x00#8, 0xD8#8, 0x01#8, 0x4D#8, 0xFFFE#16, 0x0102#16⟩, 8, []) := by decide +kernel

/-- J12, R296: `CALL a16`. -/
theorem test_J12_CALL_a16 :
    stepped (machine ⟨0x01#8, 0xB0#8, 0x00#8, 0x13#8, 0x00#8, 0xD8#8, 0x01#8, 0x4D#8, 0xFFFE#16, 0x0100#16⟩ [0xCD#8, 0x34#8, 0x12#8])
      [0xFFFD#16, 0xFFFC#16] =
    some (⟨0x01#8, 0xB0#8, 0x00#8, 0x13#8, 0x00#8, 0xD8#8, 0x01#8, 0x4D#8, 0xFFFC#16, 0x1234#16⟩, 24, [0x01#8, 0x03#8]) := by decide +kernel

/-- J14, R297: `CALL NC,a16`. -/
theorem test_J14_CALL_NC_a16 :
    stepped (machine ⟨0x01#8, 0x00#8, 0x00#8, 0x13#8, 0x00#8, 0xD8#8, 0x01#8, 0x4D#8, 0xFFFE#16, 0x0100#16⟩ [0xD4#8, 0x34#8, 0x12#8])
      [0xFFFD#16, 0xFFFC#16] =
    some (⟨0x01#8, 0x00#8, 0x00#8, 0x13#8, 0x00#8, 0xD8#8, 0x01#8, 0x4D#8, 0xFFFC#16, 0x1234#16⟩, 24, [0x01#8, 0x03#8]) := by decide +kernel

/-- J17, R299: `RET C`. -/
theorem test_J17_RET_C :
    stepped (storing (machine ⟨0x01#8, 0x10#8, 0x00#8, 0x13#8, 0x00#8, 0xD8#8, 0x01#8, 0x4D#8, 0xC000#16, 0x0100#16⟩ [0xD8#8]) [(0xC000#16, 0x00#8), (0xC001#16, 0x80#8)])
      [] =
    some (⟨0x01#8, 0x10#8, 0x00#8, 0x13#8, 0x00#8, 0xD8#8, 0x01#8, 0x4D#8, 0xC002#16, 0x8000#16⟩, 20, []) := by decide +kernel

/-- J15, R298: `RET`. -/
theorem test_J15_RET :
    stepped (storing (machine ⟨0x01#8, 0xB0#8, 0x00#8, 0x13#8, 0x00#8, 0xD8#8, 0x01#8, 0x4D#8, 0xC000#16, 0x0100#16⟩ [0xC9#8]) [(0xC000#16, 0x00#8), (0xC001#16, 0x80#8)])
      [] =
    some (⟨0x01#8, 0xB0#8, 0x00#8, 0x13#8, 0x00#8, 0xD8#8, 0x01#8, 0x4D#8, 0xC002#16, 0x8000#16⟩, 16, []) := by decide +kernel

/-- J18, R300: `RETI`. -/
theorem test_J18_RETI :
    stepped (storing (machine ⟨0x01#8, 0xB0#8, 0x00#8, 0x13#8, 0x00#8, 0xD8#8, 0x01#8, 0x4D#8, 0xC000#16, 0x0100#16⟩ [0xD9#8]) [(0xC000#16, 0x50#8), (0xC001#16, 0x01#8)])
      [] =
    some (⟨0x01#8, 0xB0#8, 0x00#8, 0x13#8, 0x00#8, 0xD8#8, 0x01#8, 0x4D#8, 0xC002#16, 0x0150#16⟩, 16, []) := by decide +kernel

theorem test_J18_RETI_control :
    control (storing (machine ⟨0x01#8, 0xB0#8, 0x00#8, 0x13#8, 0x00#8, 0xD8#8, 0x01#8, 0x4D#8, 0xC000#16, 0x0100#16⟩ [0xD9#8]) [(0xC000#16, 0x50#8), (0xC001#16, 0x01#8)]) =
    some (true, false, false) := by decide +kernel

/-- J20, R302: `RST 00H`. -/
theorem test_J20_RST_00H :
    stepped (machine ⟨0x01#8, 0xB0#8, 0x00#8, 0x13#8, 0x00#8, 0xD8#8, 0x01#8, 0x4D#8, 0xC002#16, 0x0100#16⟩ [0xC7#8])
      [0xC001#16, 0xC000#16] =
    some (⟨0x01#8, 0xB0#8, 0x00#8, 0x13#8, 0x00#8, 0xD8#8, 0x01#8, 0x4D#8, 0xC000#16, 0x0000#16⟩, 16, [0x01#8, 0x01#8]) := by decide +kernel

/-- Y1, R310: `NOP`. -/
theorem test_Y1_NOP :
    stepped (machine ⟨0x01#8, 0xB0#8, 0x00#8, 0x13#8, 0x00#8, 0xD8#8, 0x01#8, 0x4D#8, 0xFFFE#16, 0x0100#16⟩ [0x00#8])
      [] =
    some (⟨0x01#8, 0xB0#8, 0x00#8, 0x13#8, 0x00#8, 0xD8#8, 0x01#8, 0x4D#8, 0xFFFE#16, 0x0101#16⟩, 4, []) := by decide +kernel

/-- Y2, R312: `STOP`. -/
theorem test_Y2_STOP :
    stepped (machine ⟨0x01#8, 0xB0#8, 0x00#8, 0x13#8, 0x00#8, 0xD8#8, 0x01#8, 0x4D#8, 0xFFFE#16, 0x0100#16⟩ [0x10#8, 0x00#8])
      [] =
    some (⟨0x01#8, 0xB0#8, 0x00#8, 0x13#8, 0x00#8, 0xD8#8, 0x01#8, 0x4D#8, 0xFFFE#16, 0x0102#16⟩, 4, []) := by decide +kernel

/-- Y3, R313: `DI`. -/
theorem test_Y3_DI :
    stepped ({ machine ⟨0x01#8, 0xB0#8, 0x00#8, 0x13#8, 0x00#8, 0xD8#8, 0x01#8, 0x4D#8, 0xFFFE#16, 0x0100#16⟩ [0xF3#8] with ime := true })
      [] =
    some (⟨0x01#8, 0xB0#8, 0x00#8, 0x13#8, 0x00#8, 0xD8#8, 0x01#8, 0x4D#8, 0xFFFE#16, 0x0101#16⟩, 4, []) := by decide +kernel

theorem test_Y3_DI_control :
    control ({ machine ⟨0x01#8, 0xB0#8, 0x00#8, 0x13#8, 0x00#8, 0xD8#8, 0x01#8, 0x4D#8, 0xFFFE#16, 0x0100#16⟩ [0xF3#8] with ime := true }) =
    some (false, false, false) := by decide +kernel

/-- Y4, R314: `EI`. -/
theorem test_Y4_EI :
    stepped (machine ⟨0x01#8, 0xB0#8, 0x00#8, 0x13#8, 0x00#8, 0xD8#8, 0x01#8, 0x4D#8, 0xFFFE#16, 0x0100#16⟩ [0xFB#8])
      [] =
    some (⟨0x01#8, 0xB0#8, 0x00#8, 0x13#8, 0x00#8, 0xD8#8, 0x01#8, 0x4D#8, 0xFFFE#16, 0x0101#16⟩, 4, []) := by decide +kernel

theorem test_Y4_EI_control :
    control (machine ⟨0x01#8, 0xB0#8, 0x00#8, 0x13#8, 0x00#8, 0xD8#8, 0x01#8, 0x4D#8, 0xFFFE#16, 0x0100#16⟩ [0xFB#8]) =
    some (false, true, false) := by decide +kernel

/-- Y7, R313 with 60_exceptions.md R333: `DI`. -/
theorem test_Y7_DI :
    stepped ({ machine ⟨0x01#8, 0xB0#8, 0x00#8, 0x13#8, 0x00#8, 0xD8#8, 0x01#8, 0x4D#8, 0xFFFE#16, 0x0100#16⟩ [0xF3#8] with imeScheduled := true })
      [] =
    some (⟨0x01#8, 0xB0#8, 0x00#8, 0x13#8, 0x00#8, 0xD8#8, 0x01#8, 0x4D#8, 0xFFFE#16, 0x0101#16⟩, 4, []) := by decide +kernel

theorem test_Y7_DI_control :
    control ({ machine ⟨0x01#8, 0xB0#8, 0x00#8, 0x13#8, 0x00#8, 0xD8#8, 0x01#8, 0x4D#8, 0xFFFE#16, 0x0100#16⟩ [0xF3#8] with imeScheduled := true }) =
    some (false, false, false) := by decide +kernel

/-- Y8, R311: `HALT`. -/
theorem test_Y8_HALT :
    stepped (machine ⟨0x01#8, 0xB0#8, 0x00#8, 0x13#8, 0x00#8, 0xD8#8, 0x01#8, 0x4D#8, 0xFFFE#16, 0x0100#16⟩ [0x76#8])
      [] =
    some (⟨0x01#8, 0xB0#8, 0x00#8, 0x13#8, 0x00#8, 0xD8#8, 0x01#8, 0x4D#8, 0xFFFE#16, 0x0101#16⟩, 4, []) := by decide +kernel

theorem test_Y8_HALT_control :
    control (machine ⟨0x01#8, 0xB0#8, 0x00#8, 0x13#8, 0x00#8, 0xD8#8, 0x01#8, 0x4D#8, 0xFFFE#16, 0x0100#16⟩ [0x76#8]) =
    some (false, false, true) := by decide +kernel

/-- DA8, R228. -/
theorem test_DA8_DAA : stepped (machine ⟨0x32#8, 0x30#8, 0x00#8, 0x13#8, 0x00#8, 0xD8#8, 0x01#8, 0x4D#8, 0xFFFE#16, 0x0100#16⟩ [0x27#8]) [] = some (⟨0x98#8, 0x10#8, 0x00#8, 0x13#8, 0x00#8, 0xD8#8, 0x01#8, 0x4D#8, 0xFFFE#16, 0x0101#16⟩, 4, []) := by decide +kernel

/-- DA13, R228. -/
theorem test_DA13_DAA : stepped (machine ⟨0x9A#8, 0x70#8, 0x00#8, 0x13#8, 0x00#8, 0xD8#8, 0x01#8, 0x4D#8, 0xFFFE#16, 0x0100#16⟩ [0x27#8]) [] = some (⟨0x34#8, 0x50#8, 0x00#8, 0x13#8, 0x00#8, 0xD8#8, 0x01#8, 0x4D#8, 0xFFFE#16, 0x0101#16⟩, 4, []) := by decide +kernel

/-! ## Interrupts, faults, devices (95_test_vectors.md sections 2.9 to 2.16) -/

/-- The reset registers (10_state.md R31) at a given stack pointer. -/
def resetAt (sp pc : Word) : Regs := ⟨0x01#8, 0xB0#8, 0x00#8, 0x13#8, 0x00#8, 0xD8#8, 0x01#8, 0x4D#8, sp, pc⟩

/-- A machine with `ime`, `IE` and `IF` set, running the code. -/
def asking (ime : Bool) (ie ifl : Byte) (sp : Word) (code : List Byte) : State :=
  { storing (machine (resetAt sp 0x0100#16) code) [(0xFFFF#16, ie), (0xFF0F#16, ifl)] with ime := ime }

/-- I2: `IE` = 1F, `IF` = 16: bit 1 is taken and only it is cleared. -/
theorem test_I2_priority : stepped (asking true 0x1F#8 0x16#8 0xFFFE#16 [0x00#8]) [0xFF0F#16, 0xFFFD#16, 0xFFFC#16] =
    some (resetAt 0xFFFC#16 0x0048#16, 20, [0x14#8, 0x01#8, 0x00#8]) := by decide +kernel

/-- I5: bits 7:5 select no source. -/
theorem test_I5_no_source : stepped (asking true 0xE0#8 0xE0#8 0xFFFE#16 [0x00#8]) [0xFF0F#16] =
    some (resetAt 0xFFFE#16 0x0101#16, 4, [0xE0#8]) := by decide +kernel

/-- A machine whose stack guard is at 0x0100, with `SP` at `sp`. -/
def guarded (sp : Word) (ifl : Byte) : State :=
  { asking true 0x01#8 ifl sp [0x00#8] with params := { Config.defaultParams with spGuardThreshold := 0x0100#16 } }

/-- I9: below the threshold all of `IF` is cleared and the instruction runs. -/
theorem test_I9_guard : stepped (guarded 0x00FE#16 0x13#8) [0xFF0F#16] =
    some (resetAt 0x00FE#16 0x0101#16, 4, [0x00#8]) := by decide +kernel

/-- I10: at the threshold the dispatch is the ordinary one. -/
theorem test_I10_guard_edge : stepped (guarded 0x0100#16 0x01#8) [0xFF0F#16] =
    some (resetAt 0x00FE#16 0x0040#16, 20, [0x00#8]) := by decide +kernel

/-- I11: the illegal byte faults with `locked` set and `PC` after it. -/
def faulted (s : State) : Option (Byte × Bool × Word) :=
  match step s with
  | .fault (.illegalOpcode op left) => some (op, left.locked, left.regs.pc)
  | _ => none

theorem test_I11_illegal : faulted (machine (resetAt 0xFFFE#16 0x0100#16) [0xD3#8]) = some (0xD3#8, true, 0x0101#16) := by
  decide +kernel

/-- T-b, step 8, and T-d, step 3: the counter reloads and requests; the reloaded value overflows again in the same step. -/
theorem test_timer_reload :
    let b := { ((Bus.reset.setIo 0x07 0x05#8).setIo 0x05 0xFF#8).setIo 0x06 0x80#8 with timaAcc := 12 }
    let t := b.timerStep 4
    (t.ioAt 0x05, t.timaAcc, t.ioAt 0x0F) = (0x80#8, 0, 0x04#8) := by decide +kernel

theorem test_timer_twice :
    let b := { ((Bus.reset.setIo 0x07 0x05#8).setIo 0x05 0xFF#8).setIo 0x06 0xFF#8 with timaAcc := 8 }
    let t := b.timerStep 24
    (t.ioAt 0x05, t.timaAcc, t.ioAt 0x0F) = (0xFF#8, 0, 0x04#8) := by decide +kernel

/-- P-a, step 114: the boundary; P-c, step 16416: line 144. -/
theorem test_ppu_boundary :
    let t := { Bus.reset with dot := 456 }.boundary
    (t.1.ioAt 0x44, t.1.dot, t.1.ioAt 0x41, t.1.ioAt 0x0F, t.2) = (0x01#8, 0, 0x02#8, 0x00#8, false) := by decide +kernel

theorem test_ppu_vblank :
    let t := { (Bus.reset.setIo 0x41 0x10#8).setIo 0x44 0x8F#8 with dot := 456 }.boundary
    (t.1.ioAt 0x44, t.1.dot, t.1.ioAt 0x41, t.1.ioAt 0x0F, t.2) = (0x90#8, 0, 0x11#8, 0x03#8, true) := by decide +kernel

/-- K8: Left and A pressed, both groups selected. -/
theorem test_K8_joypad :
    let b := { Bus.reset.write 0xFF00#16 0x00#8 with buttons := 0xED#8 }
    (b.peek 0xFF00#16, (b.afterRead 0xFF00#16).ioAt 0x0F) = (0xCC#8, 0x10#8) := by decide +kernel

/-- D-b: the OAM DMA from page 0xFF, the joypad read included. -/
theorem test_Db_oamDma :
    let b := { Bus.reset.setIo 0x01 0xAB#8 with buttons := 0xFE#8 }.write 0xFF46#16 0xFF#8
    (b.oam.read 0, b.oam.read 1, b.oam.read 0x46, b.oam.read 0x80, b.ioAt 0x0F) = (0xCE#8, 0xAB#8, 0xFF#8, 0x00#8, 0x10#8) := by
  decide +kernel

/-- G23: the palette data port advances its index on writes. -/
theorem test_G23_palette :
    let b := ((({ Bus.reset with color := true }.write 0xFF68#16 0x80#8).write 0xFF69#16 0x1F#8).write 0xFF69#16 0x7C#8)
    (b.peek 0xFF68#16, b.bgPal.read 0, b.bgPal.read 1) = (0x82#8, 0x1F#8, 0x7C#8) := by decide +kernel

/-! ## Witnesses: a state and operands that meet every hypothesis of a statement -/

theorem witness_DecodeEncodeRoundTrip : Instr.wf (.ldA_MemA16 0xFF44#16) = true ∧
    decode [0xFA#8, 0x44#8, 0xFF#8, 0x76#8] = .ok (.ldA_MemA16 0xFF44#16, [0x76#8]) := ⟨rfl, rfl⟩

/-- One byte less than the length, for a three-byte and a two-byte opcode. -/
theorem witness_LengthByOpcode :
    [0x01#8, 0x34#8].length < length 0x01#8 ∧ [0xCB#8].length < length 0xCB#8 := by decide

/-- The decoder's hypothesis of StepRunsDecoded, on one-byte, two-byte and three-byte instructions. -/
theorem witness_StepRunsDecoded :
    let s := asking true 0x01#8 0x02#8 0xFFFE#16 [0xCD#8, 0x34#8, 0x12#8]
    s.locked = false ∧ s.halted = false ∧ s.imeScheduled = false ∧ requests s = 0#8
      ∧ decode (bytesAtPc s) = .ok (.call 0x1234#16, []) := by
  refine ⟨rfl, rfl, rfl, ?_, ?_⟩
  · decide +kernel
  · have e : bytesAtPc (asking true 0x01#8 0x02#8 0xFFFE#16 [0xCD#8, 0x34#8, 0x12#8]) = [0xCD#8, 0x34#8, 0x12#8] := by decide +kernel
    rw [e]; rfl

theorem witness_StepRunsDecoded_short :
    decode (bytesAtPc (machine (resetAt 0xFFFE#16 0x0100#16) [0x3E#8, 0x05#8, 0x76#8])) = .ok (.ldA_d8 0x05#8, [0x76#8]) := by
  have e : bytesAtPc (machine (resetAt 0xFFFE#16 0x0100#16) [0x3E#8, 0x05#8, 0x76#8]) = [0x3E#8, 0x05#8, 0x76#8] := by decide +kernel
  rw [e]; rfl

/-- A CPU step that answers: of the longest instruction, and idle. -/
theorem witness_CostBound :
    (∃ t, cpuStep (machine (resetAt 0xFFFE#16 0x0100#16) [0xCD#8, 0x34#8, 0x12#8]) = .next t ∧ t.stepCost = 24)
      ∧ ∃ t, cpuStep { State.reset with halted := true } = .next t ∧ t.stepCost = 4 := ⟨⟨_, rfl, rfl⟩, ⟨_, rfl, rfl⟩⟩

theorem witness_CostTable : 0xD2#8 ∉ illegalOpcodes ∧ notTaken 0xD2#8 = some 12 ∧ 0xCB#8 ∉ illegalOpcodes := by decide

/-- The lowest and the highest source, `SP` at the threshold. -/
theorem witness_InterruptDispatch :
    (let s := guarded 0x0100#16 0x01#8
     s.locked = false ∧ s.halted = false ∧ s.ime = true ∧ (requests s).getLsbD 0 = true
       ∧ ¬s.regs.sp.toNat < s.params.spGuardThreshold.toNat)
      ∧ (let s := asking true 0x1F#8 0x10#8 0xFFFE#16 []
         s.locked = false ∧ s.halted = false ∧ (requests s).getLsbD 4 = true
           ∧ (∀ j, j < 4 → (requests s).getLsbD j = false) ∧ ¬s.regs.sp.toNat < s.params.spGuardThreshold.toNat) := by
  decide +kernel

theorem witness_GuardDiscards :
    let s := guarded 0x00FF#16 0x01#8
    s.locked = false ∧ s.halted = false ∧ s.imeScheduled = false ∧ s.ime = true ∧ requests s ≠ 0#8
      ∧ s.regs.sp.toNat < s.params.spGuardThreshold.toNat := by decide +kernel

/-- A step that fetches an illegal opcode, and a locked machine. -/
theorem witness_IllegalOpcodeFaults :
    (let s := machine (resetAt 0xFFFE#16 0x0100#16) [0xD3#8]
     0xD3#8 ∈ illegalOpcodes ∧ s.bus.peek s.regs.pc = 0xD3#8 ∧ s.locked = false ∧ s.halted = false
       ∧ s.imeScheduled = false ∧ s.ime = false)
      ∧ ({ State.reset with locked := true } : State).locked = true := by decide +kernel

/-- Both cases of the conclusion happen. -/
theorem witness_StepStopsOnlyAtIllegal :
    State.reset.locked = false ∧ (∃ t, cpuStep State.reset = .next t)
      ∧ faulted (machine (resetAt 0xFFFE#16 0x0100#16) [0xFD#8]) = some (0xFD#8, true, 0x0101#16) :=
  ⟨rfl, ⟨_, rfl⟩, by decide +kernel⟩

theorem witness_SystemInstructions :
    let s : State := { State.reset with imeScheduled := true }
    s.locked = false ∧ s.halted = false ∧ s.imeScheduled = true := ⟨rfl, rfl, rfl⟩

/-- A halted machine that stays halted, and one that wakes with `ime` clear (H-d). -/
theorem witness_HaltAndWake :
    (let s := { asking false 0x00#8 0x1F#8 0xFFFE#16 [] with halted := true }
     s.locked = false ∧ s.halted = true ∧ requests s = 0#8)
      ∧ (let s := { asking false 0x01#8 0x01#8 0xFFFE#16 [] with halted := true }
         s.locked = false ∧ s.halted = true ∧ requests s ≠ 0#8) := by decide +kernel

theorem witness_ArrayReadAfterWrite : Memory.wf [(0, 0x12#8), (0x3FFF, 0x34#8)] = true
    ∧ Memory.wf (Memory.write [(0, 0x12#8), (0x3FFF, 0x34#8)] 0 0x00#8) = true := by decide

/-- An `Mbc1` cartridge of 8 banks with its first byte of bank `b` at 0xB0 + b (95_test_vectors.md section 2.9), external RAM on. -/
def cartridge : Bus :=
  { Bus.reset with
    rom := [(0, 0xB0#8), (0x4000, 0xB1#8), (0x8000, 0xB2#8), (0x1C000, 0xB7#8)], romLen := 0x20000, cartKind := .mbc1
    eramSize := .kib32, ramEnable := true }

/-- The window borders of ReadRom: 0x3FFF, 0x4000, 0x7FFF, a bank taken modulo 8 (M9, M10), a read beyond the ROM (G9). -/
theorem witness_ReadRom :
    cartridge.peek 0x0000#16 = 0xB0#8 ∧ cartridge.peek 0x3FFF#16 = 0x00#8 ∧ cartridge.peek 0x4000#16 = 0xB1#8
      ∧ cartridge.peek 0x7FFF#16 = 0x00#8 ∧ ({ cartridge with romBank := 0x1F#7 } : Bus).peek 0x4000#16 = 0xB7#8
      ∧ ({ Bus.reset with romLen := 0x0150 } : Bus).peek 0x0150#16 = 0xFF#8 := by decide +kernel

/-- A bus whose arrays hold a mark at each window border. -/
def marked : Bus :=
  { cartridge with
    vram := [(0, 0x11#8), (0x1FFF, 0x12#8), (0x3FFF, 0x13#8)], eram := [(0, 0x21#8), (0x1FFF, 0x22#8)]
    wram := [(0, 0x31#8), (0xFFF, 0x32#8), (0x1000, 0x33#8), (0x1FFF, 0x34#8), (0x7FFF, 0x35#8)]
    oam := [(0, 0x41#8), (0x9F, 0x42#8)], hram := [(0, 0x51#8), (0x7E, 0x52#8)], ie := 0x61#8 }

/-- The window borders of ReadRam. -/
theorem witness_ReadRam :
    [0x8000#16, 0x9FFF#16, 0xA000#16, 0xBFFF#16, 0xC000#16, 0xCFFF#16, 0xD000#16, 0xDFFF#16, 0xE000#16, 0xF000#16, 0xFDFF#16,
      0xFE00#16, 0xFE9F#16, 0xFEA0#16, 0xFEFF#16, 0xFF80#16, 0xFFFE#16, 0xFFFF#16].map marked.peek =
    [0x11#8, 0x12#8, 0x21#8, 0x22#8, 0x31#8, 0x32#8, 0x33#8, 0x34#8, 0x31#8, 0x33#8, 0x00#8, 0x41#8, 0x42#8, 0xFF#8, 0xFF#8,
      0x51#8, 0x52#8, 0x61#8] ∧ ({ marked with color := true, vramBank := 1#1 } : Bus).peek 0x9FFF#16 = 0x13#8
      ∧ ({ marked with ramEnable := false } : Bus).peek 0xA000#16 = 0xFF#8 := by decide +kernel

/-- The color variant with a VRAM DMA armed. -/
def armed : Bus := { Bus.reset with color := true, hdmaLen := 128, hdmaActive := true, bgPal := [(63, 0x77#8)] }

/-- The clauses of ReadIo: an armed, an idle and a cancelled copy; a palette port; the plain cells at both ends of the block. -/
theorem witness_ReadIo :
    armed.peek 0xFF55#16 = 0x7F#8 ∧ ({ armed with hdmaLen := 0, hdmaActive := false } : Bus).peek 0xFF55#16 = 0xFF#8
      ∧ ({ armed with hdmaActive := false } : Bus).peek 0xFF55#16 = 0xFF#8
      ∧ (armed.setIo 0x68 0x3F#8).peek 0xFF69#16 = 0x77#8 ∧ (Bus.reset.setIo 0x01 0x12#8).peek 0xFF01#16 = 0x12#8
      ∧ (Bus.reset.setIo 0x7F 0x34#8).peek 0xFF7F#16 = 0x34#8 ∧ (Bus.reset.setIo 0x69 0x56#8).peek 0xFF69#16 = 0x56#8 := by
  decide +kernel

/-- The window borders of WriteRam (G2, G3, G4, G6, G10, G11, M30), each by the array it lands in. -/
theorem witness_WriteRam :
    (marked.write 0x8000#16 0x99#8).vram.read 0 = 0x99#8 ∧ (marked.write 0x9FFF#16 0x99#8).vram.read 0x1FFF = 0x99#8
      ∧ (({ marked with ramBank := 2#2 } : Bus).write 0xBFFF#16 0x66#8).eram.read 0x5FFF = 0x66#8
      ∧ Bus.reset.write 0xA000#16 0x42#8 = Bus.reset ∧ (marked.write 0xCFFF#16 0x99#8).wram.read 0xFFF = 0x99#8
      ∧ (marked.write 0xD000#16 0x99#8).wram.read 0x1000 = 0x99#8 ∧ (marked.write 0xFDFF#16 0x34#8).wram.read 0x1DFF = 0x34#8
      ∧ (marked.write 0xFE9F#16 0x77#8).oam.read 0x9F = 0x77#8 ∧ marked.write 0xFEA0#16 0x77#8 = marked
      ∧ marked.write 0xFEFF#16 0x77#8 = marked ∧ (marked.write 0xFFFE#16 0x22#8).hram.read 0x7E = 0x22#8
      ∧ (marked.write 0xFFFF#16 0xFF#8).ie = 0xFF#8 := by decide +kernel

/-- The window borders of CartridgeWrites (M7, M9, M14, M28, M35, M36), and a cartridge without a controller (G7). -/
theorem witness_CartridgeWrites :
    (cartridge.write 0x1FFF#16 0x0B#8).ramEnable = false ∧ (cartridge.write 0x0000#16 0x1A#8).ramEnable = true
      ∧ (cartridge.write 0x2000#16 0xFF#8).romBank = 0x1F#7 ∧ (cartridge.write 0x3FFF#16 0x20#8).romBank = 0x01#7
      ∧ (({ cartridge with romBank := 2#7 } : Bus).write 0x4000#16 0x01#8).romBank = 0x22#7
      ∧ (({ cartridge with bankMode := .advanced } : Bus).write 0x5FFF#16 0x02#8).ramBank = 2#2
      ∧ (cartridge.write 0x6000#16 0x01#8).bankMode = .advanced ∧ (cartridge.write 0x7FFF#16 0x02#8).bankMode = .simple
      ∧ Bus.reset.write 0x2000#16 0x05#8 = Bus.reset := by decide +kernel

/-- The clauses of IoWrites (G13 to G17, G20, G22, G24), and the last cell of the block. -/
theorem witness_IoWrites :
    (Bus.reset.write 0xFF00#16 0xFF#8).ioAt 0x00 = 0x30#8 ∧ (Bus.reset.write 0xFF41#16 0xFF#8).ioAt 0x41 = 0xFE#8
      ∧ (({ Bus.reset.setIo 0x04 0x99#8 with divAcc := 200 } : Bus).write 0xFF04#16 0x77#8).divAcc = 0
      ∧ ((Bus.reset.setIo 0x44 0x55#8).write 0xFF44#16 0x00#8).ioAt 0x44 = 0x55#8
      ∧ (armed.write 0xFF4F#16 0xFF#8).vramBank = 1#1 ∧ (armed.write 0xFF51#16 0xC0#8).hdmaSrc = 0xC000#16
      ∧ (armed.write 0xFF52#16 0xFF#8).hdmaSrc = 0x00F0#16 ∧ (armed.write 0xFF53#16 0xFF#8).hdmaDst = 0x9F00#16
      ∧ (armed.write 0xFF54#16 0xFF#8).hdmaDst = 0x80F0#16 ∧ (armed.write 0xFF55#16 0x00#8).hdmaActive = false
      ∧ (armed.write 0xFF70#16 0x0B#8).wramBank = 3#3 ∧ (armed.write 0xFF70#16 0x08#8).wramBank = 1#3
      ∧ ((armed.setIo 0x6A 0xBF#8).write 0xFF6B#16 0x33#8).ioAt 0x6A = 0x80#8
      ∧ (Bus.reset.write 0xFF7F#16 0x12#8).ioAt 0x7F = 0x12#8 ∧ (Bus.reset.write 0xFF70#16 0x03#8).wramBank = 1#3 := by
  decide +kernel

/-- A cell of RAM with two names, `IE`, and no cell. -/
theorem witness_StoredByteReadsBack :
    plain (Bus.reset.cell 0xE123#16) ∧ plain (Bus.reset.cell 0xFFFF#16) ∧ plain (Bus.reset.cell 0xFEA0#16)
      ∧ Bus.reset.cell 0xC123#16 = Bus.reset.cell 0xE123#16 ∧ Bus.reset.cell 0xE123#16 ≠ .nothing := by
  refine ⟨.inl ?_, .inr (.inl ?_), .inr (.inr ?_), ?_, ?_⟩ <;> decide

/-- `PUSH BC` with its stack in high RAM; `LDH A,(0x00)` with a selected button pressed. -/
theorem witness_MemoryFrame :
    (let s := machine (resetAt 0xFFFE#16 0x0101#16) [0xC5#8]
     (∃ t, exec (decodeOp 0xC5#8 0x00#8 0x00#8) s = .next t) ∧ (∀ a ∈ targets 0xC5#8 0x00#8 0x00#8 s, plain (s.bus.cell a)))
      ∧ (let s := { State.reset with bus := { Bus.reset with buttons := 0xFE#8 } }
         (∃ t, exec (decodeOp 0xF0#8 0x00#8 0x00#8) s = .next t) ∧ targets 0xF0#8 0x00#8 0x00#8 s = []
           ∧ 0xFF00#16 ∈ sources 0xF0#8 0x00#8 0x00#8 s ∧ (s.bus.peek 0xFF00#16).toNat % 16 ≠ 15) := by
  refine ⟨⟨⟨_, rfl⟩, ?_⟩, ⟨_, rfl⟩, ?_, ?_, ?_⟩
  · intro a h
    have e : targets 0xC5#8 0x00#8 0x00#8 (machine (resetAt 0xFFFE#16 0x0101#16) [0xC5#8]) = [0xFFFD#16, 0xFFFC#16] := by decide +kernel
    rw [e] at h
    rcases List.mem_cons.1 h with rfl | h
    · exact .inl (by decide)
    · rcases List.mem_cons.1 h with rfl | h
      · exact .inl (by decide)
      · cases h
  all_goals decide +kernel

/-- The three clauses of VramDma: cancel, copy at once, arm. -/
theorem witness_VramDma :
    (armed.color = true ∧ armed.hdmaActive = true ∧ (0x7F#8).toNat < 128)
      ∧ (let b : Bus := { armed with hdmaActive := false }
         b.color = true ∧ b.hdmaActive = false ∧ (0x00#8).toNat < 128) ∧ 128 ≤ (0x80#8).toNat := by decide

theorem witness_TimerLoops : (Bus.reset.setIo 0x07 0x05#8).io.wf = true := by decide

theorem witness_ScanlineBoundary :
    ({ Bus.reset with dot := 455 } : Bus).dot < 456 ∧ 456 ≤ ({ Bus.reset with dot := 456 } : Bus).dot := by decide

/-- The PPU off and on, and the dots at which a line is drawn and the horizontal blank begins. -/
theorem witness_PixelPipelineStep :
    lcdc (Bus.reset.setIo 0x40 0x11#8) 7 = false ∧ lcdc Bus.reset 7 = true
      ∧ (let b := ({ Bus.reset with dot := 76 + 4 } : Bus).boundary.1
         (b.ioAt 0x44).toNat < 144 ∧ (b.ioAt 0x41).toNat % 4 = 2 ∧ 80 ≤ b.dot)
      ∧ (let b := ({ Bus.reset.setIo 0x41 0x07#8 with dot := 248 + 4 } : Bus).boundary.1
         (b.ioAt 0x44).toNat < 144 ∧ (b.ioAt 0x41).toNat % 4 = 3 ∧ 252 ≤ b.dot) := by decide +kernel

theorem witness_BackgroundPixels :
    ({ Config.defaultParams with layersEnabled := false } : Params).layersEnabled = false ∧ 143 < 144 ∧ 159 < 160 := by decide

/-- A sprite of one solid tile at the top left corner, and the same table with the sprite far off. -/
def scene (x : Byte) : Bus :=
  { Bus.reset.setIo 0x40 0x93#8 with oam := [(0, 0x10#8), (1, x), (2, 0x01#8)], vram := [(0x10, 0xFF#8), (0x11, 0x00#8)] }

/-- R399, R405 to R407 by hand: a black sprite column, then the white background; the next line keeps what `RAM_INIT` gave it. -/
theorem test_render_line :
    [0, 3, 32, 640].map (Bus.renderScanline Config.defaultParams
      { scene 0x08#8 with fb := [(0, List.replicate 640 0x55#8), (1, List.replicate 640 0x55#8)] } 0).fbByte =
      [0x00#8, 0xFF#8, 0xFF#8, 0x55#8] := by decide +kernel

/-- The clauses of WindowAndSpritePixels: sprites off, none visible, one visible. -/
theorem witness_WindowAndSpritePixels :
    Config.defaultParams.layersEnabled = true ∧ lcdc Bus.reset 1 = false
      ∧ (lcdc (scene 0xA8#8) 1 = true ∧ ∀ i ∈ kept (scene 0xA8#8) 0, ¬visible (scene 0xA8#8) 0 0 i)
      ∧ lcdc (scene 0x08#8) 1 = true ∧ 0 ∈ kept (scene 0x08#8) 0 ∧ visible (scene 0x08#8) 0 0 0 := by
  have k8 : kept (scene 0x08#8) 0 = [0] := by decide +kernel
  have kA : kept (scene 0xA8#8) 0 = [0] := by decide +kernel
  refine ⟨rfl, by decide, ⟨by decide +kernel, ?_⟩, by decide +kernel, by rw [k8]; exact List.mem_singleton.2 rfl, ?_⟩
  · intro i h
    rw [kA, List.mem_singleton] at h
    subst h
    unfold visible
    decide +kernel
  · unfold visible
    decide +kernel

/-- A ROM image that ends with the cartridge-type byte, and one that ends before it. -/
theorem witness_LoadReadsHeader :
    let bad := List.replicate 0x0147 0x00#8 ++ [0x04#8]
    let good := List.replicate 0x0143 0x00#8 ++ [0x80#8, 0x00#8, 0x00#8, 0x00#8, 0x03#8, 0x00#8, 0x03#8]
    headerKind bad = none ∧ headerKind good = some .mbc1 ∧ headerColor good = true
      ∧ headerEram Config.defaultParams good = .kib32 ∧ headerKind (List.replicate 0x0147 0x04#8) = some .romOnly := by
  decide +kernel

/-- A system step that answers. -/
theorem witness_HostOnlyState : ∃ t, step (machine (resetAt 0xFFFE#16 0x0100#16) [0x00#8]) = .next t := ⟨_, rfl⟩

/-- A machine asleep for good: halted, nothing enabled, the PPU and the counter off. -/
structure Asleep (s : State) : Prop where
  unlocked : s.locked = false
  halted : s.halted = true
  quiet : requests s = 0#8
  ppuOff : lcdc s.bus 7 = false
  timerOff : (s.bus.ioAt 0x07).getLsbD 2 = false

theorem Asleep.step {s : State} (h : Asleep s) : ∃ t, step s = .next t ∧ Asleep t := by
  have hp : s.pending = false := decide_eq_false fun c => c h.quiet
  have e : cpuStep s = .next s.haltedStep := by
    unfold cpuStep
    rw [h.unlocked, h.halted]
    rfl
  have hb : (deviceStep s.haltedStep).bus = s.bus.dividerStep 4 := by
    have h1 : s.bus.timerStep 4 = s.bus.dividerStep 4 := by
      unfold Bus.timerStep Bus.counterStep bitAt
      have ht : (s.bus.dividerStep 4).ioAt Io.tac = s.bus.ioAt 0x07 := Bus.ioAt_setIo_ne s.bus _ (by decide)
      rw [ht, h.timerOff]
      rfl
    show (Bus.ppuStep s.params ((s.bus.timerStep 4).audioStep 4) 4).1 = _
    unfold Bus.ppuStep Bus.lcdcBit bitAt
    have ho : ((s.bus.timerStep 4).audioStep 4).ioAt Io.lcdc = s.bus.ioAt 0x40 := by
      rw [h1]; exact Bus.ioAt_setIo_ne s.bus _ (by decide)
    rw [ho]
    have := h.ppuOff
    unfold lcdc at this
    rw [this]
    exact h1
  have keep (o : Nat) (ho : o ≠ 0x04) : (deviceStep s.haltedStep).bus.ioAt o = s.bus.ioAt o := by
    rw [hb]; exact Bus.ioAt_setIo_ne s.bus _ ho
  refine ⟨deviceStep s.haltedStep, by unfold Machine.step systemStep; rw [e], ?_⟩
  refine ⟨h.unlocked, ?_, ?_, ?_, ?_⟩
  · show (!s.pending) = true
    rw [hp]; rfl
  · have hie : (deviceStep s.haltedStep).bus.ie = s.bus.ie := by rw [hb]; rfl
    unfold requests
    rw [keep 0x0F (by decide), hie]
    exact h.quiet
  · unfold lcdc
    rw [keep 0x40 (by decide)]
    exact h.ppuOff
  · rw [keep 0x07 (by decide)]
    exact h.timerOff

theorem Asleep.frame {s : State} (h : Asleep s) (fuel n : Nat) (vb : Bool) : ∃ r, frameLoop fuel n vb s = .next r := by
  induction fuel generalizing s n vb with
  | zero => exact ⟨_, rfl⟩
  | succ fuel ih =>
    unfold frameLoop
    split
    · obtain ⟨t, e, g⟩ := h.step
      rw [e]
      exact ih g _ _
    · exact ⟨_, rfl⟩

/-- A whole frame that ends, one that ends in a fault, and a stopped machine. -/
theorem witness_RunFrameBudget :
    (∃ s r, s.running = true ∧ runFrame s = .next r)
      ∧ (∃ s f, s.running = true ∧ runFrame s = .fault f) ∧ State.reset.running = false := by
  refine ⟨⟨{ State.reset with running := true, halted := true, bus := Bus.reset.setIo 0x40 0x00#8 }, ?_⟩,
    ⟨{ State.reset with running := true, locked := true }, .locked { State.reset with running := true, locked := true }, rfl, ?_⟩, rfl⟩
  rotate_left
  · unfold runFrame
    rw [if_pos rfl, show Config.frameCycles / 4 = 17555 + 1 by decide]
    unfold frameLoop
    rw [if_pos (by decide)]
    rfl
  have h : Asleep { State.reset with running := true, halted := true, bus := Bus.reset.setIo 0x40 0x00#8 } :=
    ⟨rfl, rfl, by decide, by decide, by decide⟩
  obtain ⟨r, e⟩ := h.frame (Config.frameCycles / 4) 0 false
  refine ⟨r, rfl, ?_⟩
  unfold runFrame
  rw [if_pos rfl]
  exact e

/-- A state other than reset that meets the invariant and steps: the color variant at the end of a drawn line with a copy armed. -/
def lineEnd : State :=
  { machine (resetAt 0xFFFE#16 0x0100#16) [0x00#8] with
    bus := { (armed.setIo 0x41 0x07#8).setIo 0x44 0x8F#8 with dot := 248, bgPal := [] } }

theorem witness_StepKeepsInvariant : Machine.Inv lineEnd ∧ ∃ t, step lineEnd = .next t := by
  refine ⟨?_, _, rfl⟩
  unfold Machine.Inv
  decide +kernel

end Sys2Proof.Tests
end

section
/-! The invariant of the machine: it is the low nibble of `F`, a good bus and a well-placed pixel pipeline; the CPU step and the
device step each keep the three. -/

namespace Sys2Proof.Machine

/-- The invariant in terms of the good states of the bus (`Bus.Good`). -/
theorem inv_iff (s : State) : Inv s ↔ s.regs.f &&& 0x0F#8 = 0#8 ∧ s.bus.Good ∧ s.bus.ppuWf = true := by
  rw [Bus.good_iff]
  unfold Inv flagsWf
  rw [decide_eq_true_eq]
  tauto

/-- What the CPU does between two states (10_state.md R28, R131): no bus access and no register write breaks the invariant. -/
theorem Touches.inv {s t : State} (h : Touches s t) (hs : Inv s) : Inv t := by
  rw [inv_iff] at hs ⊢
  obtain ⟨hf, hgood, hppu⟩ := hs
  have hppu' : t.bus.ppuWf = true := (Bus.ppuWf_congr h.bus.ppuView).trans hppu
  exact ⟨h.flags hf, hgood.reaches h.bus, hppu'⟩

/-- The costs of R331 are what `Bus.ppuWf_ppuStep` needs: short, and whole machine cycles. -/
theorem IsCost.le_and_mod {n : Nat} (h : IsCost n) : n ≤ 24 ∧ n % 4 = 0 := by
  unfold IsCost at h
  omega

/-- The timer, the audio placeholder and the pixel pipeline keep the invariant when they advance by a legal cost. -/
theorem deviceStep_inv {s : State} (hs : Inv s) (hc : IsCost s.stepCost) : Inv (deviceStep s) := by
  rw [inv_iff] at hs ⊢
  obtain ⟨hf, hgood, hppu⟩ := hs
  obtain ⟨hle, hmod⟩ := hc.le_and_mod
  have hgood' : (s.bus.timerStep s.stepCost).Good := hgood.timerStep _
  have hppu' : (s.bus.timerStep s.stepCost).ppuWf = true :=
    (Bus.ppuWf_congr (Bus.ppuView_timerStep s.bus s.stepCost)).trans hppu
  exact ⟨hf, hgood'.ppuStep s.params _, Bus.ppuWf_ppuStep s.params _ _ hppu' hle hmod⟩

end Sys2Proof.Machine

open Sys2Proof.Machine

/-- Settles O59: a step that goes on is a CPU step of a legal cost followed by the devices (`step_next`), and both keep the
invariant. `tima_acc` is bounded by the longest period, 1024 (log 17). -/
theorem stepKeepsInvariant : Obligations.StepKeepsInvariant := by
  unfold Obligations.StepKeepsInvariant
  intro s u hs hstep
  obtain ⟨t, -, rfl, htouch, hcost⟩ := step_next hstep
  exact deviceStep_inv (htouch.inv hs) hcost
end

section
/-! The sparse byte arrays. -/

open Sys2Proof.Machine

/-- Settles O39, from the laws of the arrays: read after write, the canonical form kept, and extensionality under it. -/
theorem arrayReadAfterWrite : Obligations.ArrayReadAfterWrite := by
  unfold Obligations.ArrayReadAfterWrite
  exact ⟨Memory.read_write, Memory.wf_write, Memory.ext_of_read⟩
end

section
/-! The register pairs as views (10_state.md R23, R24). -/

namespace Sys2Proof

variable (r : Regs) (v : Word)

@[simp] theorem Regs.bc_setBc : (r.setBc v).bc = v := r.pair_setPair .bc v
@[simp] theorem Regs.de_setDe : (r.setDe v).de = v := r.pair_setPair .de v
@[simp] theorem Regs.hl_setHl : (r.setHl v).hl = v := r.pair_setPair .hl v

/-- `AF` reads back masked: only the low nibble of `F` is lost (R24). -/
@[simp] theorem Regs.af_setAf : (r.setAf v).af = v &&& 0xFFF0#16 := by
  show Machine.mkWord (Machine.hiByte v) (Machine.loByte v &&& 0xF0#8) = v &&& 0xFFF0#16
  have hmask : 0xFFF0#16 = 0xFF#8 ++ 0xF0#8 := by decide
  have hhigh : Machine.hiByte v &&& 0xFF#8 = Machine.hiByte v := BitVec.and_allOnes
  calc Machine.mkWord (Machine.hiByte v) (Machine.loByte v &&& 0xF0#8)
      = Machine.mkWord (Machine.hiByte v) (Machine.loByte v) &&& 0xFFF0#16 := by
        rw [hmask, Machine.mkWord, Machine.mkWord, BitVec.and_append, hhigh]
    _ = v &&& 0xFFF0#16 := by rw [Machine.mkWord_hiByte_loByte]

end Sys2Proof

/-- Settles O38: the views and the writes are the definitions of the pairs, and each reads back by its lemma. -/
theorem pairViews : Obligations.PairViews := by
  unfold Obligations.PairViews
  intro r v
  refine ⟨rfl, rfl, rfl, rfl, rfl, rfl, rfl, rfl, ?_⟩
  exact ⟨r.bc_setBc v, r.de_setDe v, r.hl_setHl v, r.af_setAf v⟩
end

section
/-! Bus reads and writes, window by window (20_memory.md R85 to R117). -/

namespace Sys2Proof.Machine

/-! The address map by address numbers (R82). -/

theorem region_below4000 {a : Nat} (h : a < 0x4000) : region (BitVec.ofNat 16 a) = .romFixed a :=
  region_ofNat (by omega) ⟨h, rfl⟩

theorem region_below8000 {a : Nat} (h : 0x4000 ≤ a) (h' : a < 0x8000) :
    region (BitVec.ofNat 16 a) = .romBanked (a - 0x4000) :=
  region_ofNat (by omega) ⟨by omega, by omega⟩

theorem region_belowA000 {a : Nat} (h : 0x8000 ≤ a) (h' : a < 0xA000) : region (BitVec.ofNat 16 a) = .vram (a - 0x8000) :=
  region_ofNat (by omega) ⟨by omega, by omega⟩

theorem region_belowC000 {a : Nat} (h : 0xA000 ≤ a) (h' : a < 0xC000) : region (BitVec.ofNat 16 a) = .eram (a - 0xA000) :=
  region_ofNat (by omega) ⟨by omega, by omega⟩

theorem region_belowD000 {a : Nat} (h : 0xC000 ≤ a) (h' : a < 0xD000) : region (BitVec.ofNat 16 a) = .wramFixed (a - 0xC000) :=
  region_ofNat (by omega) ⟨by omega, .inl (by omega)⟩

theorem region_belowE000 {a : Nat} (h : 0xD000 ≤ a) (h' : a < 0xE000) : region (BitVec.ofNat 16 a) = .wramBanked (a - 0xD000) :=
  region_ofNat (by omega) ⟨by omega, .inl (by omega)⟩

/-- The echo has the regions of the work RAM 0x2000 below (R91, R113). -/
theorem region_echo {a : Nat} (h : 0xE000 ≤ a) (h' : a < 0xFE00) :
    (∃ i, region (BitVec.ofNat 16 a) = .wramFixed i ∧ region (BitVec.ofNat 16 (a - 0x2000)) = .wramFixed i)
      ∨ ∃ i, region (BitVec.ofNat 16 a) = .wramBanked i ∧ region (BitVec.ofNat 16 (a - 0x2000)) = .wramBanked i := by
  by_cases hf : a < 0xF000
  · refine .inl ⟨a - 0xE000, ?_, ?_⟩
    · exact region_ofNat (by omega) ⟨by omega, .inr (by omega)⟩
    · exact region_ofNat (by omega) ⟨by omega, .inl (by omega)⟩
  · refine .inr ⟨a - 0xF000, ?_, ?_⟩
    · exact region_ofNat (by omega) ⟨by omega, .inr ⟨by omega, by omega⟩⟩
    · exact region_ofNat (by omega) ⟨by omega, .inl (by omega)⟩

theorem region_belowFEA0 {a : Nat} (h : 0xFE00 ≤ a) (h' : a < 0xFEA0) : region (BitVec.ofNat 16 a) = .oam (a - 0xFE00) :=
  region_ofNat (by omega) ⟨by omega, by omega⟩

theorem region_belowFF00 {a : Nat} (h : 0xFEA0 ≤ a) (h' : a < 0xFF00) : region (BitVec.ofNat 16 a) = .unusable :=
  region_ofNat (by omega) ⟨h, h'⟩

theorem region_ioOffset {o : Nat} (h : o < 0x80) : region (BitVec.ofNat 16 (0xFF00 + o)) = .io o :=
  region_ofNat (by omega) ⟨h, rfl⟩

theorem region_belowFFFF {a : Nat} (h : 0xFF80 ≤ a) (h' : a < 0xFFFF) : region (BitVec.ofNat 16 a) = .hram (a - 0xFF80) :=
  region_ofNat (by omega) ⟨by omega, by omega⟩

theorem region_FFFF : region 0xFFFF#16 = .ie := region_eq_of_names rfl

namespace Bus

variable (b : Bus)

/-- R86, R87: without a controller the bank is 1; either way it is taken modulo the number of banks. -/
theorem effRomBank_eq : b.effRomBank = (if b.cartKind = .mbc1 then b.romBank.toNat else 1) % b.numRomBanks := by
  unfold effRomBank
  cases b.cartKind <;> rfl

theorem eramVisible_iff : b.eramVisible = true ↔ b.ramEnable = true ∧ 0 < b.eramSize.bytes := by
  rw [eramVisible, Bool.and_eq_true, decide_eq_true_eq, Nat.pos_iff_ne_zero]

theorem not_eramVisible_iff : ¬ b.eramVisible = true ↔ b.ramEnable = false ∨ b.eramSize.bytes = 0 := by
  rw [eramVisible_iff, not_and_or, Bool.not_eq_true, Nat.pos_iff_ne_zero, not_not]

end Bus

/-- The low and the high nibble of a byte, as numbers. -/
theorem ofNat_lowNibble : ∀ v : Byte, BitVec.ofNat 8 (v.toNat % 16) = v &&& 0x0F#8 := by decide
theorem ofNat_highNibble : ∀ v : Byte, BitVec.ofNat 8 (v.toNat / 16) = v >>> 4 := by decide

/-- R372 in numbers: the low nibble of the joypad register. -/
theorem Bus.joypadLow_eq (b : Bus) :
    b.joypadLow =
      BitVec.ofNat 8 (if b.joypadSelect.getLsbD 4 then 0xF else b.buttons.toNat % 16)
        &&& BitVec.ofNat 8 (if b.joypadSelect.getLsbD 5 then 0xF else b.buttons.toNat / 16) := by
  have hmask : ∀ v : Byte, 0x0F#8 &&& (v &&& 0x0F#8) = v &&& 0x0F#8 := by decide
  have hdirs : 0x0F#8 &&& (if b.joypadSelect.getLsbD 4 then 0x0F#8 else b.buttons &&& 0x0F#8)
      = BitVec.ofNat 8 (if b.joypadSelect.getLsbD 4 then 0xF else b.buttons.toNat % 16) := by
    split
    · rfl
    · rw [hmask, ofNat_lowNibble]
  have hacts : (if b.joypadSelect.getLsbD 5 then 0x0F#8 else b.buttons >>> 4)
      = BitVec.ofNat 8 (if b.joypadSelect.getLsbD 5 then 0xF else b.buttons.toNat / 16) := by
    split
    · rfl
    · rw [ofNat_highNibble]
  rw [← hdirs, ← hacts]
  rfl

end Sys2Proof.Machine

open Sys2Proof.Machine

/-- Settles O40: the two windows of the address map, and the bank by `Bus.effRomBank_eq`. -/
theorem readRom : Obligations.ReadRom := by
  unfold Obligations.ReadRom
  intro b a
  refine ⟨fun h => b.peek_romFixed (region_below4000 h), fun h h' => ?_⟩
  rw [b.peek_romBanked (region_below8000 h h'), b.effRomBank_eq]
  rfl

/-- Settles O41: the read rule of each window of the address map. -/
theorem readRam : Obligations.ReadRam := by
  unfold Obligations.ReadRam
  intro b a
  refine ⟨fun h h' => b.peek_vram (region_belowA000 h h'), fun h h' => ?_, fun h h' => b.peek_wramFixed (region_belowD000 h h'),
    fun h h' => b.peek_wramBanked (region_belowE000 h h'), fun h h' => ?_, fun h h' => b.peek_oam (region_belowFEA0 h h'),
    fun h h' => b.peek_unusable (region_belowFF00 h h'), fun h h' => b.peek_hram (region_belowFFFF h h'),
    b.peek_ie region_FFFF⟩
  · rw [b.peek_eram (region_belowC000 h h')]
    by_cases hv : b.eramVisible = true
    · rw [if_pos hv, if_neg (mt b.not_eramVisible_iff.mpr (not_not.mpr hv))]
      rfl
    · rw [if_neg hv, if_pos (b.not_eramVisible_iff.mp hv)]
      rfl
  · rcases region_echo h h' with ⟨i, he, hw⟩ | ⟨i, he, hw⟩
    · rw [b.peek_wramFixed he, b.peek_wramFixed hw]
    · rw [b.peek_wramBanked he, b.peek_wramBanked hw]

/-- Settles O42: the read rule of the I/O block by offset; the composed joypad nibble is `Bus.joypadLow_eq`. -/
theorem readIo : Obligations.ReadIo := by
  unfold Obligations.ReadIo
  intro b
  dsimp only
  have hjoy := b.joypadLow_eq
  have hio {o : Nat} (h : o < 0x80) : b.peek (BitVec.ofNat 16 (0xFF00 + o)) = b.readIo o := b.peek_io (region_ioOffset h)
  refine ⟨?_, fun addr => ?_, fun hc => ?_, fun hc => ?_, fun hc => ?_, fun o ho h0 hplain => ?_⟩
  · refine (hio (o := 0) (by decide)).trans ?_
    show 0xC0#8 ||| b.joypadSelect ||| b.joypadLow = _
    rw [hjoy]
    rfl
  · unfold Bus.afterRead
    rw [hjoy]
    rfl
  · refine (hio (o := 0x55) (by decide)).trans ?_
    simp [Bus.readIo, hc, Bus.hdmaStatus]
  · refine (hio (o := 0x69) (by decide)).trans ?_
    simp [Bus.readIo, hc, Bus.palIndex]
  · refine (hio (o := 0x6B) (by decide)).trans ?_
    simp [Bus.readIo, hc, Bus.palIndex]
  · rw [hio ho]
    rcases hplain with hc | ⟨h55, h69, h6B⟩
    · simp [Bus.readIo, h0, hc]
    · simp [Bus.readIo, h0, h55, h69, h6B]

/-- Settles O43: the write rule of each window of the address map. -/
theorem writeRam : Obligations.WriteRam := by
  unfold Obligations.WriteRam
  intro b a v
  refine ⟨fun h h' => b.write_vram v (region_belowA000 h h'), fun h h' => ?_,
    fun h h' => b.write_wramFixed v (region_belowD000 h h'), fun h h' => b.write_wramBanked v (region_belowE000 h h'),
    fun h h' => ?_, fun h h' => b.write_oam v (region_belowFEA0 h h'), fun h h' => b.write_unusable v (region_belowFF00 h h'),
    fun h h' => b.write_hram v (region_belowFFFF h h'), fun h => ?_⟩
  · rw [b.write_eram v (region_belowC000 h h')]
    simp only [b.eramVisible_iff]
    rfl
  · rcases region_echo h h' with ⟨i, he, hw⟩ | ⟨i, he, hw⟩
    · rw [b.write_wramFixed v he, b.write_wramFixed v hw]
    · rw [b.write_wramBanked v he, b.write_wramBanked v hw]
  · subst h
    exact b.write_ie v region_FFFF
end

section
/-! Bus writes to the cartridge and to the I/O block (20_memory.md R100 to R105, R116). -/

namespace Sys2Proof.Machine

/-! Bit fields as numbers. -/

theorem extractLsb'_zero_eq_ofNat {w : Nat} (x : BitVec w) (n : Nat) : x.extractLsb' 0 n = BitVec.ofNat n x.toNat := by
  rw [BitVec.extractLsb', Nat.shiftRight_zero]

/-- A bank register from its two high and its five low bits. -/
theorem append_two_five (hi : BitVec 2) (lo : BitVec 5) : hi ++ lo = BitVec.ofNat 7 (hi.toNat * 32 + lo.toNat) := by
  revert hi lo; decide

theorem bank_toNat : ∀ r : BitVec 7, (r.extractLsb' 5 2).toNat = r.toNat / 32 ∧ (r.extractLsb' 0 5).toNat = r.toNat % 32 := by
  decide

/-- R103: the five low bits, 0 becoming 1. -/
theorem romBankLow_toNat : ∀ v : Byte, (if v.extractLsb' 0 5 = 0#5 then 1#5 else v.extractLsb' 0 5).toNat
    = if v.toNat % 32 = 0 then 1 else v.toNat % 32 := by decide

/-- R65: the index moves on in bits 5:0. -/
theorem palAdvance_eq : ∀ ps : Byte, Bus.palAdvance ps =
    if ps.getLsbD 7 then (ps &&& 0xC0#8) ||| BitVec.ofNat 8 ((ps.toNat % 64 + 1) % 64) else ps := by decide

/-- R69: bank 0 becomes 1. -/
theorem svbkBank_eq : ∀ v : Byte, Bus.svbkBank v = if v.toNat % 8 = 0 then 1#3 else BitVec.ofNat 3 v.toNat := by decide

namespace Bus

/-- A write below 0x8000 is the cartridge controller's. -/
theorem write_cartridge (b : Bus) {a : Nat} (v : Byte) (h : a < 0x8000) : b.write (BitVec.ofNat 16 a) v = b.writeRom a v := by
  by_cases h4 : a < 0x4000
  · rw [b.write_romFixed v (region_below4000 h4), toNat_address (by omega)]
  · rw [b.write_romBanked v (region_below8000 (by omega) h), toNat_address (by omega)]

theorem writeRom_romOnly (b : Bus) (a : Nat) (v : Byte) (h : b.cartKind = .romOnly) : b.writeRom a v = b := by
  unfold writeRom; rw [h]

theorem writeRom_mbc1 (b : Bus) (a : Nat) (v : Byte) (h : b.cartKind = .mbc1) : b.writeRom a v = b.writeMbc1 a v := by
  unfold writeRom; rw [h]

theorem writeMbc1_enable (b : Bus) {a : Nat} (v : Byte) (h : a < 0x2000) :
    b.writeMbc1 a v = { b with ramEnable := decide (v.toNat % 16 = 0xA) } := by
  unfold writeMbc1; rw [if_pos h]; rfl

theorem writeMbc1_low (b : Bus) {a : Nat} (v : Byte) (h : 0x2000 ≤ a) (h' : a < 0x4000) :
    b.writeMbc1 a v =
      { b with romBank := BitVec.ofNat 7 (b.romBank.toNat / 32 * 32 + (if v.toNat % 32 = 0 then 1 else v.toNat % 32)) } := by
  unfold writeMbc1
  rw [if_neg (by omega), if_pos h']
  dsimp only
  rw [append_two_five, romBankLow_toNat, (bank_toNat _).1]

theorem writeMbc1_high (b : Bus) {a : Nat} (v : Byte) (h : 0x4000 ≤ a) (h' : a < 0x6000) (hm : b.bankMode = .simple) :
    b.writeMbc1 a v = { b with romBank := BitVec.ofNat 7 (v.toNat % 4 * 32 + b.romBank.toNat % 32) } := by
  unfold writeMbc1
  rw [if_neg (by omega), if_neg (by omega), if_pos h', hm]
  dsimp only
  rw [append_two_five, (bank_toNat _).2, extractLsb'_zero_eq_ofNat, BitVec.toNat_ofNat]

theorem writeMbc1_ramBank (b : Bus) {a : Nat} (v : Byte) (h : 0x4000 ≤ a) (h' : a < 0x6000) (hm : b.bankMode = .advanced) :
    b.writeMbc1 a v = { b with ramBank := BitVec.ofNat 2 v.toNat } := by
  unfold writeMbc1
  rw [if_neg (by omega), if_neg (by omega), if_pos h', hm]
  dsimp only
  rw [extractLsb'_zero_eq_ofNat]

theorem writeMbc1_mode (b : Bus) {a : Nat} (v : Byte) (h : 0x6000 ≤ a) :
    b.writeMbc1 a v = { b with bankMode := if v.toNat % 2 = 1 then .advanced else .simple } := by
  have hbit : ∀ v : Byte, bitAt v 0 = true ↔ v.toNat % 2 = 1 := by decide
  unfold writeMbc1
  rw [if_neg (by omega), if_neg (by omega), if_neg (by omega)]
  simp only [hbit]

theorem write_ioOffset (b : Bus) {o : Nat} (v : Byte) (h : o < 0x80) :
    b.write (BitVec.ofNat 16 (0xFF00 + o)) v = b.writeIo o v :=
  b.write_io v (region_ioOffset h)

/-- Above 0x46 the color registers alone have write rules of their own (R116). -/
theorem writeIo_color (b : Bus) {o : Nat} (v : Byte) (hc : b.color = true) (ho : 0x46 < o) :
    b.writeIo o v = b.writeIoColor o v := by
  have hne (p : Nat) (hp : p ≤ 0x46) : o ≠ p := by omega
  unfold writeIo
  rw [if_neg (hne Io.p1 (by decide)), if_neg (hne Io.div (by decide)), if_neg (hne Io.stat (by decide)),
    if_neg (hne Io.ly (by decide)), if_neg (hne Io.dma (by decide)), if_pos hc]

/-- Every other offset is a plain cell (R116). -/
theorem writeIo_plain (b : Bus) {o : Nat} (v : Byte) (ho : o ∉ [0x00, 0x04, 0x41, 0x44, 0x46])
    (hc : b.color = false ∨ o ∉ [0x4F, 0x51, 0x52, 0x53, 0x54, 0x55, 0x69, 0x6B, 0x70]) : b.writeIo o v = b.setIo o v := by
  simp only [List.mem_cons, List.not_mem_nil, or_false, not_or] at ho hc
  rcases hc with hc | hc
  · simp [writeIo, ho, hc]
  · simp [writeIo, writeIoColor, ho, hc]

end Bus

end Sys2Proof.Machine

open Sys2Proof.Machine

/-- Settles O44: a write below 0x8000 is the controller's, and each window of it has its own lemma. -/
theorem cartridgeWrites : Obligations.CartridgeWrites := by
  unfold Obligations.CartridgeWrites
  intro b a v ha
  dsimp only
  rw [b.write_cartridge v ha]
  refine ⟨b.writeRom_romOnly a v, ?_⟩
  by_cases hk : b.cartKind = .mbc1
  · rw [b.writeRom_mbc1 a v hk]
    exact ⟨fun _ => b.writeMbc1_enable v, fun _ => b.writeMbc1_low v, fun _ => b.writeMbc1_high v, fun _ => b.writeMbc1_ramBank v,
      fun _ => b.writeMbc1_mode v⟩
  · exact ⟨(absurd · hk), (absurd · hk), (absurd · hk), (absurd · hk), (absurd · hk)⟩

/-- Settles O45: the write rule of each special offset is the model's, bit fields read as numbers; every other offset is a plain
cell. -/
theorem ioWrites : Obligations.IoWrites := by
  unfold Obligations.IoWrites
  intro b o v ho
  dsimp only
  rw [b.write_ioOffset v ho]
  have hcol {p : Nat} (hp : 0x46 < p) (hc : b.color = true) : b.writeIo p v = b.writeIoColor p v := b.writeIo_color v hc hp
  refine ⟨?_, ?_, ?_, ?_, ?_, ?_, ?_, ?_, ?_, ?_, ?_, ?_, ?_, ?_, b.writeIo_plain v⟩
  · rintro rfl; rfl
  · rintro rfl; rfl
  · rintro rfl; rfl
  · rintro rfl; rfl
  · rintro rfl; rfl
  · rintro hc rfl
    rw [hcol (by decide) hc, ← extractLsb'_zero_eq_ofNat]
    rfl
  · rintro hc rfl; exact hcol (by decide) hc
  · rintro hc rfl; exact hcol (by decide) hc
  · rintro hc rfl; exact hcol (by decide) hc
  · rintro hc rfl; exact hcol (by decide) hc
  · rintro hc rfl; exact hcol (by decide) hc
  · rintro hc rfl
    rw [hcol (by decide) hc, ← palAdvance_eq]
    rfl
  · rintro hc rfl
    rw [hcol (by decide) hc, ← palAdvance_eq]
    rfl
  · rintro hc rfl
    rw [hcol (by decide) hc, ← svbkBank_eq]
    rfl
end

section
/-! A stored byte is read back (20_memory.md section 2). A bus access goes through the cell its address stands for: a read gives
that cell's byte, a store to RAM, `IE` or nothing puts the cell's byte, and no such store moves a cell. -/

namespace Sys2Proof.Machine

open Sys2Proof.Claims (plain)

namespace Bus

variable (b : Bus)

/-- The byte a read of a cell returns (R84). -/
def byteAt : Cell → Byte
  | .rom i => b.romByte i
  | .vram i => b.vram.read i
  | .eram i => b.eram.read i
  | .wram i => b.wram.read i
  | .oam i => b.oam.read i
  | .io o => b.readIo o
  | .hram i => b.hram.read i
  | .ie => b.ie
  | .nothing => sentinel

/-- Storing a byte in a cell of RAM or in `IE`; a store to nothing is dropped (R98). The bank windows and the I/O block have write
rules of their own. -/
def put (v : Byte) : Cell → Bus
  | .vram i => { b with vram := b.vram.write i v }
  | .eram i => { b with eram := b.eram.write i v }
  | .wram i => { b with wram := b.wram.write i v }
  | .oam i => { b with oam := b.oam.write i v }
  | .hram i => { b with hram := b.hram.write i v }
  | .ie => { b with ie := v }
  | .rom _ | .io _ | .nothing => b

theorem peek_eq_byteAt (a : Word) : b.peek a = b.byteAt (b.cell a) := by
  unfold peek cell
  cases region a with
  | eram i => dsimp only; split <;> rfl
  | _ => rfl

theorem write_eq_put {a : Word} (v : Byte) (h : plain (b.cell a)) : b.write a v = b.put v (b.cell a) := by
  unfold cell at h ⊢
  unfold write
  cases hr : region a with
  | romFixed i => simp [hr, plain, Cell.isRam] at h
  | romBanked i => simp [hr, plain, Cell.isRam] at h
  | io o => simp [hr, plain, Cell.isRam] at h
  | eram i => dsimp only; split <;> rfl
  | _ => rfl

theorem cell_put (v : Byte) (k : Cell) (a : Word) : (b.put v k).cell a = b.cell a := by
  cases k <;> exact cell_congr _ rfl rfl rfl rfl (fun _ => rfl) a

/-- Read after write, cell by cell: the arrays are apart, and inside one array it is `Memory.read_write`. -/
theorem byteAt_put (v : Byte) {k : Cell} (hk : plain k) (c : Cell) :
    (b.put v k).byteAt c = if c = k ∧ k ≠ .nothing then v else b.byteAt c := by
  cases k with
  | rom i => simp [plain, Cell.isRam] at hk
  | io o => simp [plain, Cell.isRam] at hk
  | nothing => simp [put]
  | ie => cases c <;> simp [put, byteAt, romByte] <;> rfl
  | _ i => cases c <;> simp [put, byteAt, romByte, Memory.read_write] <;> rfl

end Bus

end Sys2Proof.Machine

open Sys2Proof.Machine

/-- Settles O46: a read and a store both go through the cell of their address, and cells read back what was put in them. -/
theorem storedByteReadsBack : Obligations.StoredByteReadsBack := by
  unfold Obligations.StoredByteReadsBack
  intro b addr c v hplain
  rw [b.write_eq_put v hplain, Bus.peek_eq_byteAt, b.cell_put, b.byteAt_put v hplain, ← b.peek_eq_byteAt]
end

section
/-! What an instruction reads and stores (40_load8.md to 46_system.md): the bus after it is the bus after the reads of `sources`,
then after stores to `targets`, whatever the bytes stored. -/

namespace Sys2Proof.Machine

open Sys2Proof.Claims

/-- The bus after bus reads, in order. -/
def Bus.readAll (b : Bus) (as : List Word) : Bus := as.foldl Bus.afterRead b

/-- `c` is `b` after one store of some byte to each of the addresses, in order. -/
inductive Bus.Stores : List Word → Bus → Bus → Prop where
  | nil {b : Bus} : Bus.Stores [] b b
  | cons {b c : Bus} {a : Word} {as : List Word} (v : Byte) : Bus.Stores as (b.write a v) c → Bus.Stores (a :: as) b c

/-- The bus an answer leaves; a fault leaves the bus it found. -/
def busOr (b : Bus) : Result → Bus
  | .next t => t.bus
  | _ => b

/-- The result reads `rs`, then stores to `ws`, and does nothing else to the bus. -/
def Accesses (s : State) (rs ws : List Word) (r : Result) : Prop := Bus.Stores ws (s.bus.readAll rs) (busOr s.bus r)

variable {s : State} {r : Result}

/-! What a result accesses, from the bus it leaves. -/

theorem accesses_none (h : busOr s.bus r = s.bus) : Accesses s [] [] r := by
  rw [Accesses, h]; exact .nil

theorem accesses_read {rs : List Word} (h : busOr s.bus r = s.bus.readAll rs) : Accesses s rs [] r := by
  rw [Accesses, h]; exact .nil

theorem accesses_store {rs : List Word} {a : Word} (v : Byte) (h : busOr s.bus r = (s.bus.readAll rs).write a v) :
    Accesses s rs [a] r := by
  rw [Accesses, h]; exact .cons v .nil

theorem accesses_store2 {a a' : Word} (v v' : Byte) (h : busOr s.bus r = (s.bus.write a v).write a' v') :
    Accesses s [] [a, a'] r := by
  rw [Accesses, h]; exact .cons v (.cons v' .nil)

theorem accesses_push (v : Word) (h : busOr s.bus r = (s.push16 v).bus) :
    Accesses s [] [s.regs.sp - 1#16, s.regs.sp - 2#16] r :=
  accesses_store2 (hiByte v) (loByte v) (by rw [h, State.push16_eq])

theorem accesses_pop (h : busOr s.bus r = s.pop16.2.bus) : Accesses s [s.regs.sp, s.regs.sp + 1#16] [] r :=
  accesses_read (by rw [h, State.pop16_eq]; rfl)

/-- The address of an operand: `HL`, or none for a register. -/
def operandAddrs (s : State) : Operand8 → List Word
  | .reg _ => []
  | .memHL => [hl s]

variable (s) (o : Operand8)

theorem accesses_rotateForm (op : RotOp) : Accesses s (operandAddrs s o) (operandAddrs s o) (rotateForm op o s) := by
  cases o
  exacts [accesses_none rfl, accesses_store _ rfl]
theorem accesses_bitForm (i : Nat) : Accesses s (operandAddrs s o) [] (bitForm i o s) := by
  cases o
  exacts [accesses_none rfl, accesses_read rfl]
theorem accesses_resForm (i : Nat) : Accesses s (operandAddrs s o) (operandAddrs s o) (resForm i o s) := by
  cases o
  exacts [accesses_none rfl, accesses_store _ rfl]
theorem accesses_setForm (i : Nat) : Accesses s (operandAddrs s o) (operandAddrs s o) (setForm i o s) := by
  cases o
  exacts [accesses_none rfl, accesses_store _ rfl]

theorem condHolds_flags (cc : Cond) : condHolds s.flags cc = holds s cc := by cases cc <;> rfl

theorem accesses_jumpIf (cc : Cond) (a : Word) : Accesses s [] [] (jumpIf cc a s) := by
  unfold jumpIf
  split
  exacts [accesses_none rfl, accesses_none rfl]

theorem accesses_jumpRelativeIf (cc : Cond) (e : Byte) : Accesses s [] [] (jumpRelativeIf cc e s) := by
  unfold jumpRelativeIf
  split
  exacts [accesses_none rfl, accesses_none rfl]

theorem accesses_callIf (cc : Cond) (a : Word) :
    Accesses s [] (if holds s cc then [s.regs.sp - 1#16, s.regs.sp - 2#16] else []) (callIf cc a s) := by
  unfold callIf
  rw [condHolds_flags]
  split
  exacts [accesses_push _ rfl, accesses_none rfl]

theorem accesses_retIf (cc : Cond) : Accesses s (if holds s cc then [s.regs.sp, s.regs.sp + 1#16] else []) [] (retIf cc s) := by
  unfold retIf
  rw [condHolds_flags]
  split
  exacts [accesses_pop rfl, accesses_none rfl]

/-- R315: an opcode of the secondary page runs as its fields `x y z` say. -/
theorem exec_decodeSecondary (op2 : Byte) : exec (decodeSecondary op2) s = prefixForm op2 s := by
  obtain ⟨n, hn, rfl⟩ : ∃ n < 256, op2 = BitVec.ofNat 8 n := ⟨op2.toNat, op2.isLt, by simp⟩
  interval_cases n <;> rfl

/-! The primary page by what the opcodes access: decoding and running each opcode of a list gives the accesses of its group. -/

variable (b1 b2 : Byte)

/-- The opcode with its operand bytes accesses what `sources` and `targets` say. -/
def AccessesAsListed (n : Nat) : Prop :=
  Accesses s (sources (BitVec.ofNat 8 n) b1 b2 s) (targets (BitVec.ofNat 8 n) b1 b2 s) (exec (decodeOp (BitVec.ofNat 8 n) b1 b2) s)

/-- The selector `r` (R143), and the same without `(HL)`. -/
def operandSelectors : List Nat := [0, 1, 2, 3, 4, 5, 6, 7]
def registerSelectors : List Nat := [0, 1, 2, 3, 4, 5, 7]

/-- The opcodes with no data access on any path: those of the first and the last block and `HALT`, then the loads and the
accumulator operations between registers. The illegal opcodes are among them. -/
def silentOpcodes : List Nat :=
  [ 0x00, 0x01, 0x03, 0x04, 0x05, 0x06, 0x07, 0x09, 0x0B, 0x0C, 0x0D, 0x0E, 0x0F,
    0x10, 0x11, 0x13, 0x14, 0x15, 0x16, 0x17, 0x18, 0x19, 0x1B, 0x1C, 0x1D, 0x1E, 0x1F,
    0x21, 0x23, 0x24, 0x25, 0x26, 0x27, 0x29, 0x2B, 0x2C, 0x2D, 0x2E, 0x2F,
    0x31, 0x33, 0x37, 0x39, 0x3B, 0x3C, 0x3D, 0x3E, 0x3F, 0x76,
    0xC3, 0xC6, 0xCE,
    0xD3, 0xD6, 0xDB, 0xDD, 0xDE,
    0xE3, 0xE4, 0xE6, 0xE8, 0xE9, 0xEB, 0xEC, 0xED, 0xEE,
    0xF3, 0xF4, 0xF6, 0xF8, 0xF9, 0xFB, 0xFC, 0xFD, 0xFE ]
  ++ registerSelectors.flatMap (fun y => registerSelectors.map (fun z => 0x40 + 8 * y + z))
  ++ operandSelectors.flatMap (fun y => registerSelectors.map (fun z => 0x80 + 8 * y + z))

/-- The opcodes that read one byte of data and store none. -/
def readingOpcodes : List Nat :=
  [0x0A, 0x1A, 0x2A, 0x3A, 0xF0, 0xF2, 0xFA] ++ registerSelectors.map (fun y => 0x46 + 8 * y)
    ++ operandSelectors.map (fun y => 0x86 + 8 * y)

/-- The opcodes that store one byte and read no data. -/
def storingOpcodes : List Nat :=
  [0x02, 0x12, 0x22, 0x32, 0x36, 0xE0, 0xE2, 0xEA] ++ registerSelectors.map (fun z => 0x70 + z)

/-- `INC (HL)` and `DEC (HL)` read their byte, then store it. -/
def updatingOpcodes : List Nat := [0x34, 0x35]

/-- `PUSH`, `CALL` and `RST`. -/
def pushingOpcodes : List Nat := [0xC5, 0xD5, 0xE5, 0xF5, 0xCD] ++ operandSelectors.map (fun y => 0xC7 + 8 * y)

/-- `POP`, `RET` and `RETI`. -/
def poppingOpcodes : List Nat := [0xC1, 0xD1, 0xE1, 0xF1, 0xC9, 0xD9]

/-- The opcodes with a condition: `JR cc`, `RET cc`, `JP cc`, `CALL cc`. -/
def conditionalOpcodes : List Nat :=
  [0x20, 0x28, 0x30, 0x38, 0xC0, 0xC8, 0xD0, 0xD8, 0xC2, 0xCA, 0xD2, 0xDA, 0xC4, 0xCC, 0xD4, 0xDC]

theorem silentOpcodes_accesses : ∀ n ∈ silentOpcodes, AccessesAsListed s b1 b2 n := by
  simp only [silentOpcodes, operandSelectors, registerSelectors, List.forall_mem_append, List.forall_mem_flatMap,
    List.forall_mem_map, List.forall_mem_cons, List.not_mem_nil, false_imp_iff, implies_true, and_true]
  and_intros <;> exact accesses_none rfl

theorem readingOpcodes_accesses : ∀ n ∈ readingOpcodes, AccessesAsListed s b1 b2 n := by
  simp only [readingOpcodes, operandSelectors, registerSelectors, List.forall_mem_append, List.forall_mem_map, List.forall_mem_cons,
    List.not_mem_nil, false_imp_iff, implies_true, and_true]
  and_intros <;> exact accesses_read rfl

theorem storingOpcodes_accesses : ∀ n ∈ storingOpcodes, AccessesAsListed s b1 b2 n := by
  simp only [storingOpcodes, registerSelectors, List.forall_mem_append, List.forall_mem_map, List.forall_mem_cons,
    List.not_mem_nil, false_imp_iff, implies_true, and_true]
  and_intros <;> exact accesses_store (rs := []) _ rfl

theorem updatingOpcodes_accesses : ∀ n ∈ updatingOpcodes, AccessesAsListed s b1 b2 n := by
  simp only [updatingOpcodes, List.forall_mem_cons, List.not_mem_nil, false_imp_iff, implies_true, and_true]
  and_intros <;> exact accesses_store _ rfl

theorem pushingOpcodes_accesses : ∀ n ∈ pushingOpcodes, AccessesAsListed s b1 b2 n := by
  simp only [pushingOpcodes, operandSelectors, List.forall_mem_append, List.forall_mem_map, List.forall_mem_cons,
    List.not_mem_nil, false_imp_iff, implies_true, and_true]
  and_intros <;> exact accesses_push _ rfl

theorem poppingOpcodes_accesses : ∀ n ∈ poppingOpcodes, AccessesAsListed s b1 b2 n := by
  simp only [poppingOpcodes, List.forall_mem_cons, List.not_mem_nil, false_imp_iff, implies_true, and_true]
  and_intros <;> exact accesses_pop rfl

/-- `LD (a16),SP`. -/
theorem storeSp_accesses : AccessesAsListed s b1 b2 0x08 := accesses_store2 _ _ rfl

theorem conditionalOpcodes_accesses : ∀ n ∈ conditionalOpcodes, AccessesAsListed s b1 b2 n := by
  simp only [conditionalOpcodes, List.forall_mem_cons, List.not_mem_nil, false_imp_iff, implies_true, and_true]
  exact ⟨accesses_jumpRelativeIf s _ _, accesses_jumpRelativeIf s _ _, accesses_jumpRelativeIf s _ _,
    accesses_jumpRelativeIf s _ _, accesses_retIf s _, accesses_retIf s _, accesses_retIf s _, accesses_retIf s _,
    accesses_jumpIf s _ _, accesses_jumpIf s _ _, accesses_jumpIf s _ _, accesses_jumpIf s _ _,
    accesses_callIf s _ _, accesses_callIf s _ _, accesses_callIf s _ _, accesses_callIf s _ _⟩

/-- The opcodes of the primary page but 0xCB, which opens the secondary page. -/
def primaryOpcodes : List Nat :=
  silentOpcodes ++ readingOpcodes ++ storingOpcodes ++ updatingOpcodes ++ pushingOpcodes ++ poppingOpcodes ++ conditionalOpcodes
    ++ [0x08]

theorem primaryOpcodes_accesses : ∀ n ∈ primaryOpcodes, AccessesAsListed s b1 b2 n := by
  simp only [primaryOpcodes, List.forall_mem_append, List.forall_mem_singleton]
  exact ⟨⟨⟨⟨⟨⟨⟨silentOpcodes_accesses s b1 b2, readingOpcodes_accesses s b1 b2⟩, storingOpcodes_accesses s b1 b2⟩,
    updatingOpcodes_accesses s b1 b2⟩, pushingOpcodes_accesses s b1 b2⟩, poppingOpcodes_accesses s b1 b2⟩,
    conditionalOpcodes_accesses s b1 b2⟩, storeSp_accesses s b1 b2⟩

theorem mem_primaryOpcodes : ∀ op : Byte, op ≠ 0xCB#8 → op.toNat ∈ primaryOpcodes := by decide

/-! The secondary page. -/

theorem operandOf_eq_memHL : ∀ z : BitVec 3, operandOf z = .memHL ↔ z.toNat = 6 := by decide

theorem operandAddrs_eq : operandAddrs s o = if o = .memHL then [hl s] else [] := by cases o <;> rfl

/-- The operand of an opcode of the secondary page is the byte at `HL` where `z` is 6. -/
theorem operandAddrs_field (op2 : Byte) :
    operandAddrs s (operandOf (op2.extractLsb' 0 3)) = if op2.toNat % 8 = 6 then [hl s] else [] := by
  rw [operandAddrs_eq]
  simp only [operandOf_eq_memHL, extractLsb'_zero_eq_ofNat, BitVec.toNat_ofNat]

theorem sources_secondary : sources 0xCB#8 b1 b2 s = if b1.toNat % 8 = 6 then [hl s] else [] := by
  simp [sources, among]

theorem targets_secondary : targets 0xCB#8 b1 b2 s = if b1.toNat / 64 = 1 then [] else if b1.toNat % 8 = 6 then [hl s] else [] := by
  by_cases h : b1.toNat / 64 = 1 <;> simp [targets, among, h]

theorem prefixForm_accesses (op2 : Byte) :
    Accesses s (operandAddrs s (operandOf (op2.extractLsb' 0 3)))
      (if op2.toNat / 64 = 1 then [] else operandAddrs s (operandOf (op2.extractLsb' 0 3))) (prefixForm op2 s) := by
  unfold prefixForm
  generalize op2.toNat / 64 = x
  match x with
  | 0 => exact accesses_rotateForm s _ _
  | 1 => exact accesses_bitForm s _ _
  | 2 => exact accesses_resForm s _ _
  | n + 3 =>
    rw [if_neg (show n + 3 ≠ 1 by omega)]
    exact accesses_setForm s _ _

theorem secondary_accesses : AccessesAsListed s b1 b2 0xCB := by
  show Accesses s (sources 0xCB#8 b1 b2 s) (targets 0xCB#8 b1 b2 s) (exec (decodeSecondary b1) s)
  rw [exec_decodeSecondary, sources_secondary, targets_secondary, ← operandAddrs_field]
  exact prefixForm_accesses s b1

/-- An instruction's reads and stores of data are those of `sources` and `targets`. -/
theorem exec_accesses (op : Byte) :
    Accesses s (sources op b1 b2 s) (targets op b1 b2 s) (exec (decodeOp op b1 b2) s) := by
  by_cases h : op = 0xCB#8
  · subst h
    exact secondary_accesses s b1 b2
  · have hall := primaryOpcodes_accesses s b1 b2 op.toNat (mem_primaryOpcodes op h)
    rwa [AccessesAsListed, BitVec.ofNat_toNat, BitVec.setWidth_eq] at hall

end Sys2Proof.Machine
end

section
/-! The memory frame (20_memory.md R99, R120, R122): what reads and plain stores leave of every byte of the bus. -/

namespace Sys2Proof.Machine

open Sys2Proof.Claims

namespace Bus

variable (b : Bus)

@[simp] theorem cell_request (i : Nat) (a : Word) : (b.request i).cell a = b.cell a :=
  cell_congr _ rfl rfl rfl rfl (fun _ => rfl) a

@[simp] theorem cell_afterRead (r a : Word) : (b.afterRead r).cell a = b.cell a := by
  unfold afterRead
  split
  · exact b.cell_request 4 a
  · rfl

theorem cell_readAll (rs : List Word) (a : Word) : (b.readAll rs).cell a = b.cell a := by
  induction rs generalizing b with
  | nil => rfl
  | cons r rs ih => exact (ih _).trans (b.cell_afterRead r a)

theorem peek_readAll (rs : List Word) {a : Word} (h : a ≠ 0xFF0F#16) : (b.readAll rs).peek a = b.peek a := by
  induction rs generalizing b with
  | nil => rfl
  | cons r rs ih => exact (ih _).trans (b.peek_afterRead r h)

theorem region_p1 : region 0xFF00#16 = .io Io.p1 := region_eq_of_names ⟨by decide, rfl⟩
theorem region_ifl : region 0xFF0F#16 = .io Io.ifl := region_eq_of_names ⟨by decide, rfl⟩

theorem peek_ifl : b.peek 0xFF0F#16 = b.ioAt Io.ifl := by
  rw [b.peek_io region_ifl]
  simp [readIo]

/-- The low nibble a read of 0xFF00 gives is the composed one (R372). -/
theorem joypadValue_low : b.joypadValue &&& 0x0F#8 = b.joypadLow := by
  have hmask (x y z : Byte) : (0xC0#8 ||| (x &&& 0x30#8) ||| (0x0F#8 &&& y &&& z)) &&& 0x0F#8 = 0x0F#8 &&& y &&& z := by
    refine BitVec.eq_of_getLsbD_eq fun i hi => ?_
    interval_cases i <;> simp
  exact hmask _ _ _

/-- A selected button is pressed where that nibble is not all ones. -/
theorem joypadLow_ne_iff : b.joypadLow ≠ 0x0F#8 ↔ (b.peek 0xFF00#16).toNat % 16 ≠ 15 := by
  have hnibble : ∀ v : Byte, v &&& 0x0F#8 ≠ 0x0F#8 ↔ v.toNat % 16 ≠ 15 := by decide
  rw [b.peek_io region_p1, ← joypadValue_low, hnibble]
  rfl

theorem peek_ifl_afterRead (r : Word) : (b.afterRead r).peek 0xFF0F#16 =
    if r = 0xFF00#16 ∧ (b.peek 0xFF00#16).toNat % 16 ≠ 15 then b.peek 0xFF0F#16 ||| 0x10#8 else b.peek 0xFF0F#16 := by
  unfold afterRead
  simp only [joypadLow_ne_iff]
  split
  · rw [peek_ifl, peek_ifl, request, ioAt_setIo_same]
    rfl
  · rfl

/-- Reads request the joypad interrupt at most, and a second request adds nothing. -/
theorem peek_ifl_readAll (rs : List Word) : (b.readAll rs).peek 0xFF0F#16 =
    if 0xFF00#16 ∈ rs ∧ (b.peek 0xFF00#16).toNat % 16 ≠ 15 then b.peek 0xFF0F#16 ||| 0x10#8 else b.peek 0xFF0F#16 := by
  induction rs generalizing b with
  | nil => simp [readAll]
  | cons r rs ih =>
    show ((b.afterRead r).readAll rs).peek 0xFF0F#16 = _
    rw [ih, b.peek_afterRead r (by decide), b.peek_ifl_afterRead r]
    by_cases hp : (b.peek 0xFF00#16).toNat % 16 ≠ 15
    · by_cases hr : r = 0xFF00#16
      · simp [hp, hr, BitVec.or_assoc]
      · simp [hp, hr, Ne.symm hr]
    · simp [hp]

/-- A plain store moves no cell. -/
theorem cell_write_plain {a : Word} (v : Byte) (h : plain (b.cell a)) (x : Word) : (b.write a v).cell x = b.cell x := by
  rw [b.write_eq_put v h, b.cell_put]

theorem peek_write_other {a x : Word} (v : Byte) (h : plain (b.cell a)) (hx : b.cell x ≠ b.cell a ∨ b.cell a = .nothing) :
    (b.write a v).peek x = b.peek x := by
  rw [storedByteReadsBack b a x v h, if_neg]
  tauto

/-- A byte outside the cells stored to reads as before. -/
theorem Stores.peek {ws : List Word} {b c : Bus} (h : Bus.Stores ws b c) (hplain : ∀ a ∈ ws, plain (b.cell a)) {x : Word}
    (hx : ∀ a ∈ ws, b.cell x ≠ b.cell a ∨ b.cell a = .nothing) : c.peek x = b.peek x := by
  induction h with
  | nil => rfl
  | @cons b c a as v _ ih =>
    rw [List.forall_mem_cons] at hplain hx
    have hcell := b.cell_write_plain v hplain.1
    simp only [hcell] at ih
    rw [ih hplain.2 hx.2, b.peek_write_other v hplain.1 hx.1]

/-- `IF` is no RAM cell. -/
theorem cell_ifl_ne {a : Word} (h : plain (b.cell a)) : b.cell 0xFF0F#16 ≠ b.cell a := by
  have hifl : b.cell 0xFF0F#16 = .io Io.ifl := by unfold cell; rw [region_ifl]
  intro he
  rw [← he, hifl] at h
  simp [plain, Cell.isRam] at h

end Bus

end Sys2Proof.Machine

open Sys2Proof.Machine Sys2Proof.Claims

/-- Settles O47: an instruction reads at `sources`, then stores to `targets` (`exec_accesses`); reads leave every byte but `IF`
alone, and plain stores leave the bytes of other cells alone. -/
theorem memoryFrame : Obligations.MemoryFrame := by
  unfold Obligations.MemoryFrame
  intro op b1 b2 s t hexec hplain
  have hstores := exec_accesses s b1 b2 op
  rw [hexec] at hstores
  have hkeep : ∀ x, (∀ a ∈ targets op b1 b2 s, s.bus.cell x ≠ s.bus.cell a ∨ s.bus.cell a = .nothing) →
      t.bus.peek x = (s.bus.readAll (sources op b1 b2 s)).peek x := by
    intro x hx
    refine Bus.Stores.peek hstores ?_ ?_
    · simpa only [Bus.cell_readAll] using hplain
    · simpa only [Bus.cell_readAll] using hx
  refine ⟨fun c hc hx => (hkeep c hx).trans (s.bus.peek_readAll _ hc), ?_⟩
  rw [hkeep _ fun a ha => .inl (s.bus.cell_ifl_ne (hplain a ha)), s.bus.peek_ifl_readAll]
end

section
/-! Loading a cartridge (20_memory.md R106 to R108). -/

namespace Sys2Proof.Machine

namespace Memory

theorem read_ofBytes_below (bs : List Byte) {k a : Nat} (h : a < k) : (ofBytes k bs).read a = blank := by
  induction bs generalizing k with
  | nil => rfl
  | cons v vs ih =>
    have hne : k ≠ a := by omega
    have hrest := ih (k := k + 1) (by omega)
    by_cases hv : v = blank <;> simp [ofBytes, read, hv, hne, hrest]

/-- The array of a byte sequence reads the sequence back. -/
theorem read_ofBytes (bs : List Byte) (k i : Nat) : (ofBytes k bs).read (k + i) = bs.getD i blank := by
  induction bs generalizing k i with
  | nil => rfl
  | cons v vs ih =>
    cases i with
    | zero =>
      have hrest := read_ofBytes_below vs (Nat.lt_succ_self k)
      by_cases hv : v = blank <;> simp [ofBytes, read, hv, hrest]
    | succ j =>
      have hrest := ih (k + 1) j
      rw [show k + 1 + j = k + (j + 1) by omega] at hrest
      by_cases hv : v = blank <;> simp [ofBytes, read, hv, hrest]

end Memory

variable {rom : List Byte}

/-- R106: a type byte above 3 names no scheme. -/
theorem headerKind_unknown (h : 0x0147 < rom.length) (hv : 0x03 < (rom[0x0147]).toNat) : headerKind rom = none := by
  have hbyte : ∀ v : Byte, 0x03 < v.toNat → v ≠ 0x00#8 ∧ v ≠ 0x01#8 ∧ v ≠ 0x02#8 ∧ v ≠ 0x03#8 := by decide
  obtain ⟨h0, h1, h2, h3⟩ := hbyte _ hv
  simp [headerKind, List.getElem?_eq_getElem h, h0, h1, h2, h3]

theorem headerKind_known (h : 0x0147 < rom.length) (hv : (rom[0x0147]).toNat ≤ 0x03) :
    headerKind rom = some (if (rom[0x0147]).toNat = 0 then .romOnly else .mbc1) := by
  have hbyte : ∀ v : Byte, v.toNat ≤ 0x03 →
      (if v = 0x00#8 then some CartKind.romOnly else if v = 0x01#8 ∨ v = 0x02#8 ∨ v = 0x03#8 then some .mbc1 else none)
        = some (if v.toNat = 0 then .romOnly else .mbc1) := by decide
  rw [headerKind, List.getElem?_eq_getElem h]
  exact hbyte _ hv

theorem headerKind_absent (h : rom.length ≤ 0x0147) : headerKind rom = some .romOnly := by
  rw [headerKind, List.getElem?_eq_none h]

/-- R107: the table of sizes. -/
theorem headerEram_bytes (p : Params) (h : 0x0149 < rom.length) :
    (headerEram p rom).bytes = [0, 0x800, 0x2000, 0x8000, 0x20000].getD (rom[0x0149]).toNat 0 := by
  have hbyte : ∀ v : Byte,
      (if v = 0x01#8 then EramSize.kib2 else if v = 0x02#8 then .kib8 else if v = 0x03#8 then .kib32
        else if v = 0x04#8 then .kib128 else .absent).bytes = [0, 0x800, 0x2000, 0x8000, 0x20000].getD v.toNat 0 := by decide
  rw [headerEram, List.getElem?_eq_getElem h]
  exact hbyte _

theorem headerEram_absent (p : Params) (h : rom.length ≤ 0x0149) : headerEram p rom = p.eramDefaultSize := by
  rw [headerEram, List.getElem?_eq_none h]

theorem headerColor_present (h : 0x0143 < rom.length) : headerColor rom = (rom[0x0143]).getLsbD 7 := by
  rw [headerColor, List.getElem?_eq_getElem h]
  rfl

theorem headerColor_absent (h : rom.length ≤ 0x0143) : headerColor rom = false := by
  rw [headerColor, List.getElem?_eq_none h]

theorem load_refused (ram : RamInit) (s : State) (h : headerKind rom = none) :
    load rom ram s = .refused (.unknownCartridge (rom.getD 0x0147 0x00#8)) := by
  rw [load, h]

/-- What a load that is not refused installs. -/
theorem load_next (ram : RamInit) (s : State) {kind : CartKind} (h : headerKind rom = some kind) :
    ∃ t, load rom ram s = .next t ∧ t.bus.rom = Memory.ofBytes 0 rom ∧ t.bus.romLen = rom.length ∧ t.bus.cartKind = kind
      ∧ t.bus.eramSize = headerEram s.params rom ∧ t.bus.color = headerColor rom := by
  rw [load, h]
  exact ⟨_, rfl, rfl, rfl, rfl, rfl, rfl⟩

end Sys2Proof.Machine

open Sys2Proof.Machine

/-- Settles O56: the three header fields, present and absent, and the image read back from the installed array. -/
theorem loadReadsHeader : Obligations.LoadReadsHeader := by
  unfold Obligations.LoadReadsHeader
  intro rom ram s
  refine ⟨fun h hv => ?_, fun hknown => ?_⟩
  · rw [load_refused ram s (headerKind_unknown h hv), List.getD_eq_getElem _ _ h]
  obtain ⟨kind, hkind⟩ : ∃ kind, headerKind rom = some kind := by
    rcases Nat.lt_or_ge 0x0147 rom.length with h | h
    · exact ⟨_, headerKind_known h (hknown h)⟩
    · exact ⟨_, headerKind_absent h⟩
  obtain ⟨t, hload, hrom, hlen, hcart, heram, hcolor⟩ := load_next ram s hkind
  refine ⟨t, hload, hlen, fun i h => ?_, fun h => ?_, fun h => ?_, fun h => ?_, fun h => ?_, fun h => ?_, fun h => ?_⟩
  · have hread := Memory.read_ofBytes rom 0 i
    rw [Nat.zero_add, List.getD_eq_getElem _ _ h] at hread
    rw [Bus.romByte, hlen, if_pos h, hrom, hread]
  · rw [hcart]
    exact Option.some.inj (hkind.symm.trans (headerKind_absent h))
  · rw [hcart]
    exact Option.some.inj (hkind.symm.trans (headerKind_known h (hknown h)))
  · rw [heram, headerEram_absent _ h]
  · rw [heram, headerEram_bytes _ h]
  · rw [hcolor, headerColor_absent h]
  · rw [hcolor, headerColor_present h]
end

section
/-! What only the host changes (20_memory.md R99, R100; 10_state.md R77; 60_exceptions.md R370): no bus access and no device
step touches it. -/

namespace Sys2Proof.Machine

namespace Bus

/-- The fields of the bus that no step changes: the cartridge and the buttons. -/
def hostOnly (b : Bus) : Memory × Nat × CartKind × Bool × EramSize × Byte :=
  (b.rom, b.romLen, b.cartKind, b.color, b.eramSize, b.buttons)

theorem hostOnly_of_kept {b c : Bus} (h : c.kept = b.kept) : c.hostOnly = b.hostOnly := by
  simp only [kept, Prod.mk.injEq] at h
  simp only [hostOnly, h]

theorem hostOnly_timaTick (b : Bus) : b.timaTick.hostOnly = b.hostOnly :=
  ite_of hostOnly (fun _ => rfl) fun _ => rfl

theorem hostOnly_timaTicks (b : Bus) (n : Nat) : (b.timaTicks n).hostOnly = b.hostOnly := by
  induction n with
  | zero => rfl
  | succ n ih => exact (hostOnly_timaTick _).trans ih

theorem hostOnly_timerStep (b : Bus) (c : Nat) : (b.timerStep c).hostOnly = b.hostOnly :=
  ite_of hostOnly (fun _ => hostOnly_timaTicks (b.dividerStep c) _) fun _ => rfl

@[simp] theorem hostOnly_statRequest (b : Bus) (i : Nat) : (b.statRequest i).hostOnly = b.hostOnly :=
  ite_of hostOnly (fun _ => rfl) fun _ => rfl

theorem hostOnly_compareLy (b : Bus) : b.compareLy.hostOnly = b.hostOnly :=
  ite_of hostOnly (fun _ => hostOnly_statRequest _ 6) fun _ => rfl

theorem hostOnly_enterLine (b : Bus) : b.enterLine.hostOnly = b.hostOnly :=
  ite_of hostOnly (fun _ => hostOnly_statRequest _ 4) fun _ =>
    ite_of hostOnly (fun _ => hostOnly_statRequest _ 5) fun _ => rfl

theorem hostOnly_boundary (b : Bus) : b.boundary.1.hostOnly = b.hostOnly :=
  ite_of (fun r : Bus × Bool => r.1.hostOnly)
    (fun _ => (hostOnly_enterLine _).trans (hostOnly_compareLy b.nextLine)) fun _ => rfl

theorem hostOnly_startDrawing (p : Params) (b : Bus) : (startDrawing p b).hostOnly = b.hostOnly :=
  ite_of hostOnly (fun _ => rfl) fun _ => rfl

theorem hostOnly_startHblank (b : Bus) : b.startHblank.hostOnly = b.hostOnly :=
  ite_of hostOnly (fun _ => (hostOnly_of_kept (kept_hblankChunk _)).trans (hostOnly_statRequest (b.setMode 0#8) 3)) fun _ => rfl

theorem hostOnly_ppuStep (p : Params) (b : Bus) (c : Nat) : (ppuStep p b c).1.hostOnly = b.hostOnly :=
  ite_of (fun r : Bus × Bool => r.1.hostOnly)
    (fun _ => (hostOnly_startHblank _).trans ((hostOnly_startDrawing p _).trans (hostOnly_boundary { b with dot := b.dot + c })))
    fun _ => rfl

end Bus

theorem hostOnly_deviceStep (s : State) : (deviceStep s).bus.hostOnly = s.bus.hostOnly :=
  (Bus.hostOnly_ppuStep s.params _ _).trans (Bus.hostOnly_timerStep s.bus s.stepCost)

end Sys2Proof.Machine

open Sys2Proof.Machine

/-- Settles O57: a step that goes on is a CPU step (`Touches`) followed by the devices, and neither touches what is the host's. -/
theorem hostOnlyState : Obligations.HostOnlyState := by
  unfold Obligations.HostOnlyState
  intro s u hstep
  obtain ⟨t, -, rfl, htouch, -⟩ := step_next hstep
  have hbus : (deviceStep t).bus.hostOnly = s.bus.hostOnly :=
    (hostOnly_deviceStep t).trans (Bus.hostOnly_of_kept htouch.bus.kept)
  simp only [Bus.hostOnly, Prod.mk.injEq] at hbus
  obtain ⟨hrom, hlen, hkind, hcolor, hsize, hbuttons⟩ := hbus
  exact ⟨hrom, hlen, hkind, hcolor, hsize, hbuttons, htouch.running, htouch.params, htouch.locked⟩
end

section
/-! Decoding and encoding (30_encoding.md R140, R150 to R155): what `decode` answers by the length of the opcode, and that
`encode` and `decodeOp` are inverse to each other. -/

namespace Sys2Proof

open Sys2Proof.Machine

/-- Fewer bytes than the opcode's length are no instruction (R140). -/
theorem decode_truncated {op : Byte} {bytes : List Byte} (h : (op :: bytes).length < instrLen op) :
    decode (op :: bytes) = .error .truncated := by
  unfold decode
  dsimp only
  split
  next hlen => simp [hlen] at h
  next hlen => simp [hlen] at h
  next hlen => simp [hlen, Nat.succ_lt_succ_iff] at h
  · rfl

/-- With enough bytes, `decode` answers the opcode's instruction and the bytes after it. -/
theorem decode_enough (op b1 b2 : Byte) (rest : List Byte) : ∃ c1 c2,
    decode (op :: b1 :: b2 :: rest) = .ok (decodeOp op c1 c2, (op :: b1 :: b2 :: rest).drop (instrLen op)) := by
  rcases instrLen_cases op with h | h | h
  · exact ⟨0#8, 0#8, by simp [decode, h]⟩
  · exact ⟨b1, 0#8, by simp [decode, h]⟩
  · exact ⟨b1, b2, by simp [decode, h]⟩

/-- What `decode` can answer: the bytes begin with as many of an opcode and two operand bytes as the opcode's length says. -/
theorem decode_ok {bytes rest : List Byte} {i : Instr} (h : decode bytes = .ok (i, rest)) :
    ∃ op b1 b2, i = decodeOp op b1 b2 ∧ bytes = [op, b1, b2].take (instrLen op) ++ rest := by
  unfold decode at h
  split at h
  · cases h
  next op bytes =>
    split at h
    next hlen => cases h; exact ⟨op, _, _, rfl, by rw [hlen]; rfl⟩
    next hlen => cases h; exact ⟨op, _, _, rfl, by rw [hlen]; rfl⟩
    next hlen => cases h; exact ⟨op, _, _, rfl, by rw [hlen]; rfl⟩
    · cases h

/-! Encoding undoes decoding: every bit of an opcode is significant (R154). -/

theorem encode_decodeSecondary (op2 : Byte) : encode (decodeSecondary op2) = [0xCB#8, op2] := by
  revert op2
  decide

theorem wf_decodeSecondary (op2 : Byte) : (decodeSecondary op2).wf = true := by
  revert op2
  decide

theorem encode_decodePrimary (op : Byte) (nn : Word) :
    encode (decodePrimary op (loByte nn) nn) = [op, loByte nn, hiByte nn].take (instrLen op) := by
  obtain ⟨n, hn, rfl⟩ : ∃ n < 256, op = BitVec.ofNat 8 n := ⟨op.toNat, op.isLt, by simp⟩
  interval_cases n <;> rfl

theorem decodeOp_prefix (b1 b2 : Byte) : decodeOp 0xCB#8 b1 b2 = decodeSecondary b1 := rfl

theorem decodeOp_of_ne {op : Byte} (h : op ≠ 0xCB#8) (b1 b2 : Byte) :
    decodeOp op b1 b2 = decodePrimary op b1 (mkWord b2 b1) := if_neg h

/-- The encoding of an opcode's instruction is the opcode and as many operand bytes as its length says. -/
theorem encode_decodeOp (op b1 b2 : Byte) : encode (decodeOp op b1 b2) = [op, b1, b2].take (instrLen op) := by
  by_cases h : op = 0xCB#8
  · rw [h, decodeOp_prefix, encode_decodeSecondary]
    rfl
  · have hword := encode_decodePrimary op (mkWord b2 b1)
    rwa [loByte_mkWord, hiByte_mkWord, ← decodeOp_of_ne h] at hword

theorem wf_of_ne_prefixCB {i : Instr} (h : ∀ n, i ≠ .prefixCB n) : i.wf = true := by
  unfold Instr.wf
  split
  · exact absurd rfl (h _)
  · rfl

/-- Every opcode with any operand bytes is a well-formed instruction (R154): the one ill-formed row is encoded with 0xCB in front,
and the secondary page has no row like it. -/
theorem wf_decodeOp (op b1 b2 : Byte) : (decodeOp op b1 b2).wf = true := by
  by_cases h : op = 0xCB#8
  · rw [h, decodeOp_prefix, wf_decodeSecondary]
  · refine wf_of_ne_prefixCB fun n hn => h ?_
    have hlen : instrLen op ≠ 0 := by have := instrLen_cases op; omega
    have hhead := congrArg List.head? (encode_decodeOp op b1 b2)
    rw [hn, List.head?_take, if_neg hlen] at hhead
    exact (Option.some.inj hhead).symm

/-! Decoding undoes encoding. -/

/-- A 16-bit operand is encoded low byte first, and decoded so (R148). -/
theorem decode_word_operand {op : Byte} {f : Word → Instr} {rest : List Byte} (nn : Word)
    (h : ∀ b1 b2, decode (op :: b1 :: b2 :: rest) = .ok (f (mkWord b2 b1), rest)) :
    decode (op :: loByte nn :: hiByte nn :: rest) = .ok (f nn, rest) := by
  rw [h, mkWord_hiByte_loByte]

theorem decode_encode (i : Instr) (rest : List Byte) (h : i.wf = true) : decode (encode i ++ rest) = .ok (i, rest) := by
  cases i
  case prefixCB => cases h
  case ldBC_d16 nn | ldMemA16_SP nn | ldDE_d16 nn | ldHL_d16 nn | ldSP_d16 nn | jpNZ nn | jp nn | callNZ nn | jpZ nn | callZ nn
      | call nn | jpNC nn | callNC nn | jpC nn | callC nn | ldMemA16_A nn | ldA_MemA16 nn =>
    exact decode_word_operand nn fun _ _ => rfl
  all_goals rfl

/-- The table of R155 as the statements write it is the decoder's. -/
theorem length_eq_instrLen : ∀ op : Byte, Claims.length op = instrLen op := by decide

end Sys2Proof

open Sys2Proof

/-- Settles O2: `decode_encode` by the constructors; conversely decoded bytes are an opcode with its operand bytes (`decode_ok`),
and these are the encoding of what they decode to. -/
theorem decodeEncodeRoundTrip : Obligations.DecodeEncodeRoundTrip := by
  unfold Obligations.DecodeEncodeRoundTrip
  refine ⟨decode_encode, fun bytes rest i hdecode => ?_⟩
  obtain ⟨op, b1, b2, rfl, rfl⟩ := decode_ok hdecode
  exact ⟨wf_decodeOp op b1 b2, by rw [encode_decodeOp]⟩

/-- Settles O3: the first byte alone decides how many bytes `decode` takes, and the encoding of the answer is as long. -/
theorem lengthByOpcode : Obligations.LengthByOpcode := by
  unfold Obligations.LengthByOpcode
  simp only [length_eq_instrLen]
  refine ⟨fun op b1 b2 rest => ?_, rfl, rfl, fun op bytes hshort => decode_truncated hshort⟩
  have hlen : 1 ≤ instrLen op ∧ instrLen op ≤ 3 := by have := Machine.instrLen_cases op; omega
  obtain ⟨c1, c2, hdecode⟩ := decode_enough op b1 b2 rest
  refine ⟨hlen.1, hlen.2, _, wf_decodeOp op c1 c2, ?_, hdecode⟩
  rw [encode_decodeOp, List.length_take]
  exact Nat.min_eq_left hlen.2

/-- Settles O1: the decoder evaluates to the instruction on each of the words. -/
theorem decodeKnownWords : Obligations.DecodeKnownWords := by
  unfold Obligations.DecodeKnownWords
  and_intros <;> rfl
end

section
/-! Cycle costs (30_encoding.md R156, R157): the cost an opcode's meaning answers is the one of the tables. -/

namespace Sys2Proof.Machine

open Sys2Proof.Claims

/-- The cost of a next state; 0, as the tables have it, where there is none. -/
def answeredCost : Result → Nat
  | .next t => t.stepCost
  | _ => 0

variable (s : State)

theorem answeredCost_ite_holds (cc : Cond) (x y : Result) :
    answeredCost (if condHolds s.flags cc then x else y) = if holds s cc then answeredCost x else answeredCost y := by
  rw [condHolds_flags, apply_ite answeredCost]

/-! The secondary page (R157). -/

/-- The operand is the byte at `HL` where `z` is 6. -/
theorem operandCost_field (op2 : Byte) (m : Nat) :
    operandCost (operandOf (op2.extractLsb' 0 3)) 8 m = if op2.toNat % 8 ≠ 6 then 8 else m := by
  have hz : operandOf (op2.extractLsb' 0 3) = .memHL ↔ op2.toNat % 8 = 6 := by
    rw [operandOf_eq_memHL, extractLsb'_zero_eq_ofNat, BitVec.toNat_ofNat]
  simp only [ne_eq, ← hz]
  cases operandOf (op2.extractLsb' 0 3) <;> rfl

theorem prefixForm_cost (op2 : Byte) : answeredCost (prefixForm op2 s) = cost 0xCB#8 op2 s := by
  unfold prefixForm cost
  rw [if_pos rfl]
  generalize op2.toNat / 64 = x
  match x with
  | 0 => exact operandCost_field op2 16
  | 1 => exact operandCost_field op2 12
  | 2 => exact operandCost_field op2 16
  | n + 3 =>
    rw [if_neg (show n + 3 ≠ 1 by omega)]
    exact operandCost_field op2 16

/-! The primary page (R156), by the groups of opcodes of the accesses. -/

variable (b1 b2 : Byte)

/-- The opcode with its operand bytes answers the cost of the tables. -/
def CostAsListed (n : Nat) : Prop :=
  answeredCost (exec (decodeOp (BitVec.ofNat 8 n) b1 b2) s) = cost (BitVec.ofNat 8 n) b1 s

/-- The opcodes of `primaryOpcodes` with no condition, but `LD (a16),SP`. -/
def unconditionalOpcodes : List Nat :=
  silentOpcodes ++ readingOpcodes ++ storingOpcodes ++ updatingOpcodes ++ pushingOpcodes ++ poppingOpcodes

theorem unconditionalOpcodes_cost : ∀ n ∈ unconditionalOpcodes, CostAsListed s b1 b2 n := by
  simp only [unconditionalOpcodes, silentOpcodes, readingOpcodes, storingOpcodes, updatingOpcodes, pushingOpcodes, poppingOpcodes,
    operandSelectors, registerSelectors, List.forall_mem_append, List.forall_mem_flatMap, List.forall_mem_map,
    List.forall_mem_cons, List.not_mem_nil, false_imp_iff, implies_true, and_true]
  and_intros <;> rfl

/-- `LD (a16),SP`. -/
theorem storeSp_cost : CostAsListed s b1 b2 0x08 := rfl

theorem conditionalOpcodes_cost : ∀ n ∈ conditionalOpcodes, CostAsListed s b1 b2 n := by
  simp only [conditionalOpcodes, List.forall_mem_cons, List.not_mem_nil, false_imp_iff, implies_true, and_true]
  and_intros <;> exact answeredCost_ite_holds s _ _ _

theorem primaryOpcodes_cost : ∀ n ∈ primaryOpcodes, CostAsListed s b1 b2 n := by
  have hsplit : primaryOpcodes = unconditionalOpcodes ++ conditionalOpcodes ++ [0x08] := rfl
  simp only [hsplit, List.forall_mem_append, List.forall_mem_singleton]
  exact ⟨⟨unconditionalOpcodes_cost s b1 b2, conditionalOpcodes_cost s b1 b2⟩, storeSp_cost s b1 b2⟩

/-- The cost of an opcode's meaning is that of the tables, an illegal opcode's the 0 of its place there. -/
theorem exec_cost (op : Byte) : answeredCost (exec (decodeOp op b1 b2) s) = cost op b1 s := by
  by_cases h : op = 0xCB#8
  · rw [h, decodeOp_prefix, exec_decodeSecondary, prefixForm_cost]
  · have hlisted := primaryOpcodes_cost s b1 b2 op.toNat (mem_primaryOpcodes op h)
    rwa [CostAsListed, BitVec.ofNat_toNat, BitVec.setWidth_eq] at hlisted

/-- The tables give every legal opcode a cost. -/
theorem cost_ne_zero {op : Byte} (h : op ∉ illegalOpcodes) : cost op b1 s ≠ 0 := by
  have hcosts : ∀ op : Byte, op ∉ illegalOpcodes → op ≠ 0xCB#8 →
      (costs.getD (op.toNat / 16) []).getD (op.toNat % 16) 0 ≠ 0 := by decide
  have hnotTaken : ∀ op : Byte, notTaken op ≠ some 0 := by decide
  unfold cost
  by_cases hprefix : op = 0xCB#8
  · rw [if_pos hprefix]
    split_ifs <;> decide
  · have htaken := hcosts op h hprefix
    rw [if_neg hprefix]
    dsimp only
    split
    next n hn =>
      have hn0 : n ≠ 0 := by rintro rfl; exact hnotTaken op hn
      split_ifs
      exacts [htaken, hn0]
    · exact htaken

/-- A meaning that costs something answers a next state. -/
theorem exec_next_of_cost {i : Instr} (h : answeredCost (exec i s) ≠ 0) : ∃ t, exec i s = .next t := by
  rcases exec_does i s with ⟨t, ht, -, -⟩ | ⟨op, -, hfault⟩
  · exact ⟨t, ht⟩
  · rw [hfault] at h
    exact absurd rfl h

end Sys2Proof.Machine

open Sys2Proof.Machine

/-- Settles O7: the answered cost is the tables' (`exec_cost`), which is not 0 for a legal opcode, so there is a next state. -/
theorem costTable : Obligations.CostTable := by
  unfold Obligations.CostTable
  intro op b1 b2 s hlegal
  have hcost := exec_cost s b1 b2 op
  obtain ⟨t, hnext⟩ := exec_next_of_cost s (hcost ▸ cost_ne_zero s b1 hlegal)
  rw [hnext] at hcost
  exact ⟨t, hnext, hcost⟩
end

section
/-! The 8-bit loads (40_load8.md R171 to R189): encoding, result, frame and cost. -/

namespace Sys2Proof.Machine

open Sys2Proof.Claims

/-! The registers and the pairs as the statements write them (00_scope.md R9). -/

theorem get_eq_reg (r : Regs) (i : Reg8) : r.get i = reg r i := by cases i <;> rfl
theorem set_eq_withReg (r : Regs) (i : Reg8) (v : Byte) : r.set i v = withReg r i v := by cases i <;> rfl
theorem setPair_eq_withPair (r : Regs) (p : Pair) (v : Word) : r.setPair p v = withPair r p v := by cases p <;> rfl

/-- The words of an instruction are those the encoder writes: the decoder reads them back by the round trip. -/
theorem means_of_encode {bytes : List Byte} {i : Instr} (hwf : i.wf = true) (hencode : encode i = bytes) : Means bytes i :=
  ⟨hencode, fun rest => hencode ▸ decode_encode i rest hwf⟩

variable (s : State) (dst src : Reg8) (n : Byte)

/-! The next state of each shared operation. -/

theorem loadRegReg_next :
    loadRegReg dst src s = .next { s with regs := withReg s.regs dst (reg s.regs src), stepCost := 4 } := by
  rw [← get_eq_reg, ← set_eq_withReg]
  rfl

theorem loadRegImm_next : loadRegImm dst n s = .next { s with regs := withReg s.regs dst n, stepCost := 8 } := by
  rw [← set_eq_withReg]
  rfl

theorem loadRegMem_next :
    loadRegMem dst s = .next { s with
      regs := withReg s.regs dst (s.bus.peek (hl s)), bus := s.bus.afterRead (hl s), stepCost := 8 } := by
  rw [← set_eq_withReg]
  rfl

theorem storeMemReg_next :
    storeMemReg src s = .next { s with bus := s.bus.write (hl s) (reg s.regs src), stepCost := 8 } := by
  rw [← get_eq_reg]
  rfl

theorem storeMemImm_next : storeMemImm n s = .next { s with bus := s.bus.write (hl s) n, stepCost := 12 } := rfl

theorem loadA_next (cost : Nat) (a : Word) :
    loadA cost a s = .next { s with
      regs := { s.regs with a := s.bus.peek a }, bus := s.bus.afterRead a, stepCost := cost } := rfl

theorem storeA_next (cost : Nat) (a : Word) :
    storeA cost a s = .next { s with bus := s.bus.write a s.regs.a, stepCost := cost } := rfl

/-- Writing `A` leaves `HL` alone, so the address and the value that moves are both the old `HL`. -/
theorem loadAStep_next (d : Word) :
    loadAStep d s = .next { s with
      regs := { withPair s.regs .hl (hl s + d) with a := s.bus.peek (hl s) }
      bus := s.bus.afterRead (hl s), stepCost := 8 } := rfl

theorem storeAStep_next (d : Word) :
    storeAStep d s = .next { s with
      regs := withPair s.regs .hl (hl s + d), bus := s.bus.write (hl s) s.regs.a, stepCost := 8 } := rfl

/-! The rows of one form: their words, and the shared operation that is their meaning. -/

theorem means_loadReg : Means [opByte 1 (regCode dst) (regCode src)] (.loadReg dst src) := by
  cases dst <;> cases src <;> exact means_of_encode rfl rfl
theorem exec_loadReg : exec (.loadReg dst src) s = loadRegReg dst src s := by cases dst <;> cases src <;> rfl

theorem means_loadImm : Means [opByte 0 (regCode dst) 6, n] (.loadImm dst n) := by
  cases dst <;> exact means_of_encode rfl rfl
theorem exec_loadImm : exec (.loadImm dst n) s = loadRegImm dst n s := by cases dst <;> rfl

theorem means_loadFromHL : Means [opByte 1 (regCode dst) 6] (.loadFromHL dst) := by
  cases dst <;> exact means_of_encode rfl rfl
theorem exec_loadFromHL : exec (.loadFromHL dst) s = loadRegMem dst s := by cases dst <;> rfl

theorem means_storeToHL : Means [opByte 1 6 (regCode src)] (.storeToHL src) := by
  cases src <;> exact means_of_encode rfl rfl
theorem exec_storeToHL : exec (.storeToHL src) s = storeMemReg src s := by cases src <;> rfl

end Sys2Proof.Machine

open Sys2Proof.Machine Sys2Proof.Claims

/-- Settles O12: each form runs as its shared operation, whose address is the `HL` before the destination is written. -/
theorem loadRegister : Obligations.LoadRegister := by
  unfold Obligations.LoadRegister
  refine ⟨fun dst src => ⟨means_loadReg dst src, fun s => ?_⟩, fun dst n => ⟨means_loadImm dst n, fun s => ?_⟩,
    fun dst => ⟨means_loadFromHL dst, fun s => ?_⟩⟩
  · rw [exec_loadReg, loadRegReg_next]
  · rw [exec_loadImm, loadRegImm_next]
  · rw [exec_loadFromHL, loadRegMem_next]

/-- Settles O13: the one bus write of the shared operations at `HL`. -/
theorem storeAtHl : Obligations.StoreAtHl := by
  unfold Obligations.StoreAtHl
  refine ⟨fun src => ⟨means_storeToHL src, fun s => ?_⟩, fun n => ⟨means_of_encode rfl rfl, fun s => storeMemImm_next s n⟩⟩
  rw [exec_storeToHL, storeMemReg_next]

/-- Settles O14: each load of `A` is `loadA` with its cost at its address. -/
theorem loadAccumulator : Obligations.LoadAccumulator := by
  unfold Obligations.LoadAccumulator
  exact ⟨⟨means_of_encode rfl rfl, fun s => loadA_next s 8 (bc s)⟩,
    ⟨means_of_encode rfl rfl, fun s => loadA_next s 8 (de s)⟩,
    fun nn => ⟨means_of_encode rfl rfl, fun s => loadA_next s 16 nn⟩,
    fun n => ⟨means_of_encode rfl rfl, fun s => loadA_next s 12 (0xFF#8 ++ n)⟩,
    ⟨means_of_encode rfl rfl, fun s => loadA_next s 8 (0xFF#8 ++ s.regs.c)⟩⟩

/-- Settles O15: each store of `A` is `storeA` with its cost at its address. -/
theorem storeAccumulator : Obligations.StoreAccumulator := by
  unfold Obligations.StoreAccumulator
  exact ⟨⟨means_of_encode rfl rfl, fun s => storeA_next s 8 (bc s)⟩,
    ⟨means_of_encode rfl rfl, fun s => storeA_next s 8 (de s)⟩,
    fun nn => ⟨means_of_encode rfl rfl, fun s => storeA_next s 16 nn⟩,
    fun n => ⟨means_of_encode rfl rfl, fun s => storeA_next s 12 (0xFF#8 ++ n)⟩,
    ⟨means_of_encode rfl rfl, fun s => storeA_next s 8 (0xFF#8 ++ s.regs.c)⟩⟩

/-- Settles O16: the stepping accesses with `HL` moved by 1 and by -1, which modulo 2^16 takes 1 off. -/
theorem loadStoreStep : Obligations.LoadStoreStep := by
  unfold Obligations.LoadStoreStep
  simp only [BitVec.sub_eq_add_neg]
  exact ⟨⟨means_of_encode rfl rfl, fun s => storeAStep_next s 1#16⟩,
    ⟨means_of_encode rfl rfl, fun s => storeAStep_next s (-1#16)⟩,
    ⟨means_of_encode rfl rfl, fun s => loadAStep_next s 1#16⟩,
    ⟨means_of_encode rfl rfl, fun s => loadAStep_next s (-1#16)⟩⟩
end

section
/-! The 16-bit loads and the stack (41_load16_stack.md R201 to R207), and `ADD SP,r8` (43_alu16.md R254): encoding, result, frame and
cost. -/

namespace Sys2Proof.Machine

open Sys2Proof.Claims

/-! The displacement and the stack pairs as the statements write them (00_scope.md R8, R9). -/

/-- R8 by cases: the extension adds 0xFF00 exactly where the sign bit is set. -/
theorem sext16_eq_signed (e : Byte) : sext16 e = signed e := by
  apply BitVec.eq_of_toNat_eq
  rw [sext16, signed, BitVec.toNat_signExtend, BitVec.msb_eq_decide]
  rcases Nat.lt_or_ge e.toNat 128 with hpos | hneg
  · simp [hpos]
  · simp [hneg, Nat.not_lt.mpr hneg]
    omega

/-- The flags of a sum with a displacement: both carries are of the unsigned low-byte sum (R204, R254). -/
def offsetFlags (sp : Word) (e : Byte) : Byte :=
  flagByte false false (decide (sp.toNat % 16 + e.toNat % 16 > 0xF)) (decide (sp.toNat % 256 + e.toNat > 0xFF))

theorem loByte_toNat (v : Word) : (loByte v).toNat = v.toNat % 256 := by
  simp [loByte]

theorem addOffset_fst (sp : Word) (e : Byte) : (addOffset sp e).1 = sp + signed e := by
  rw [← sext16_eq_signed]
  rfl

/-- The low nibble of the low byte is that of the word. -/
theorem toByte_addOffset (sp : Word) (e : Byte) : (addOffset sp e).2.toByte = offsetFlags sp e := by
  have hnibble : lowNibble (loByte sp) = sp.toNat % 16 := by
    rw [lowNibble, loByte_toNat]
    omega
  unfold addOffset offsetFlags
  rw [hnibble, loByte_toNat]
  rfl

theorem stackPair_eq (r : Regs) (q : StackPair) : r.stackPair q = stackPair r q := by cases q <;> rfl
theorem setStackPair_eq_withStackPair (r : Regs) (q : StackPair) (v : Word) : r.setStackPair q v = withStackPair r q v := by
  cases q <;> rfl

variable (s : State) (p : Pair) (q : StackPair) (nn : Word) (e : Byte)

/-! The next state of each shared operation. -/

theorem loadPairImm_next : loadPairImm p nn s = .next { s with regs := withPair s.regs p nn, stepCost := 12 } := by
  rw [← setPair_eq_withPair]
  rfl

theorem loadSpHl_next : loadSpHl s = .next { s with regs := { s.regs with sp := hl s }, stepCost := 8 } := rfl

theorem storeSp_next :
    storeSp nn s = .next { s with
      bus := (s.bus.write nn (low s.regs.sp)).write (nn + 1#16) (high s.regs.sp), stepCost := 20 } := rfl

theorem pushForm_next :
    pushForm q s = .next { s with
      regs := { s.regs with sp := s.regs.sp - 2#16 }, bus := pushed s (stackPair s.regs q), stepCost := 16 } := by
  rw [pushForm, State.push16_eq, stackPair_eq]
  rfl

/-- The reads leave the registers alone, so the pair is written beside the moved `SP`. -/
theorem popForm_next :
    popForm q s = .next { s with
      regs := withStackPair { s.regs with sp := s.regs.sp + 2#16 } q (popped s), bus := busAfterPop s, stepCost := 12 } := by
  rw [popForm, State.pop16_eq, ← setStackPair_eq_withStackPair]
  rfl

theorem loadHlSp_next :
    loadHlSp e s = .next { s with
      regs := { withPair s.regs .hl (s.regs.sp + signed e) with f := offsetFlags s.regs.sp e }, stepCost := 12 } := by
  rw [← addOffset_fst, ← toByte_addOffset]
  rfl

theorem addSpForm_next :
    addSpForm e s = .next { s with
      regs := { s.regs with sp := s.regs.sp + signed e, f := offsetFlags s.regs.sp e }, stepCost := 16 } := by
  rw [← addOffset_fst, ← toByte_addOffset]
  rfl

/-! The rows of one form: their words, and the shared operation that is their meaning. -/

/-- The operand bytes are a word's, the low one first. -/
theorem means_loadPair : Means [opByte 0 (2 * pairCode p) 1, low nn, high nn] (.loadPair p nn) := by
  cases p <;> exact means_of_encode rfl rfl
theorem exec_loadPair : exec (.loadPair p nn) s = loadPairImm p nn s := by cases p <;> rfl

theorem means_push : Means [opByte 3 (2 * stackCode q) 5] (.push q) := by cases q <;> exact means_of_encode rfl rfl
theorem exec_push : exec (.push q) s = pushForm q s := by cases q <;> rfl

theorem means_pop : Means [opByte 3 (2 * stackCode q) 1] (.pop q) := by cases q <;> exact means_of_encode rfl rfl
theorem exec_pop : exec (.pop q) s = popForm q s := by cases q <;> rfl

end Sys2Proof.Machine

open Sys2Proof.Machine Sys2Proof.Claims

/-- Settles O27: both instructions take their sum and flags from `addOffset`, whose displacement is signed (`sext16_eq_signed`) and
whose carries are of the low byte of `SP` (`toByte_addOffset`). -/
theorem stackPointerOffset : Obligations.StackPointerOffset := by
  unfold Obligations.StackPointerOffset
  exact ⟨fun e => ⟨means_of_encode rfl rfl, fun s => loadHlSp_next s e⟩,
    fun e => ⟨means_of_encode rfl rfl, fun s => addSpForm_next s e⟩⟩

/-- Settles O17: every pair runs as the one load of a pair, which writes that pair only. -/
theorem loadPair : Obligations.LoadPair := by
  unfold Obligations.LoadPair
  refine ⟨fun p nn => ⟨means_loadPair p nn, fun s => ?_⟩, ⟨means_of_encode rfl rfl, loadSpHl_next⟩⟩
  rw [exec_loadPair, loadPairImm_next]

/-- Settles O18: a push is its two writes in order with the pair's bytes (`State.push16_eq`). -/
theorem storeSpAndPush : Obligations.StoreSpAndPush := by
  unfold Obligations.StoreSpAndPush
  refine ⟨fun nn => ⟨means_of_encode rfl rfl, fun s => storeSp_next s nn⟩, fun q => ⟨means_push q, fun s => ?_⟩⟩
  rw [exec_push, pushForm_next]

/-- Settles O19: a pop is its two reads in order (`State.pop16_eq`), then the write of the pair, which masks `F`. -/
theorem popPair : Obligations.PopPair := by
  unfold Obligations.PopPair
  refine fun q => ⟨means_pop q, fun s => ?_⟩
  rw [exec_pop, popForm_next]
end

section
/-! 8-bit arithmetic and logic (42_alu8.md R216 to R231): encoding, result, flags, frame and cost. -/

namespace Sys2Proof.Machine

open Sys2Proof.Claims

/-! Results and flags in numbers: the bit vector sums of the model are the sums on unbounded naturals, modulo 256 (R8). -/

theorem ofNat_eq_zero_iff (w : Nat) : BitVec.ofNat 8 w = 0#8 ↔ w % 256 = 0 := by
  rw [← BitVec.toNat_inj, BitVec.toNat_ofNat]
  rfl

variable (a v : Byte) (b : Bool)

theorem sub_sub_ofNat {c : Nat} (hc : c ≤ 1) : a - v - BitVec.ofNat 8 c = BitVec.ofNat 8 (a.toNat + 512 - v.toNat - c) := by
  bv_omega

theorem add_one_eq_ofNat : v + 1#8 = BitVec.ofNat 8 (v.toNat + 1) := by bv_omega
theorem sub_one_eq_ofNat : v - 1#8 = BitVec.ofNat 8 (v.toNat + 255) := by bv_omega

theorem addWithCarry_eq :
    addWithCarry a v b = (BitVec.ofNat 8 (a.toNat + v.toNat + b.toNat),
      { z := decide ((a.toNat + v.toNat + b.toNat) % 256 = 0), n := false
        h := decide (a.toNat % 16 + v.toNat % 16 + b.toNat > 0xF), c := decide (a.toNat + v.toNat + b.toNat > 0xFF) }) := by
  simp only [← ofNat_eq_zero_iff]
  rfl

theorem subWithCarry_eq :
    subWithCarry a v b = (BitVec.ofNat 8 (a.toNat + 512 - v.toNat - b.toNat),
      { z := decide ((a.toNat + 512 - v.toNat - b.toNat) % 256 = 0), n := true
        h := decide (a.toNat % 16 < v.toNat % 16 + b.toNat), c := decide (a.toNat < v.toNat + b.toNat) }) := by
  simp only [← ofNat_eq_zero_iff, ← sub_sub_ofNat a v b.toNat_le]
  rfl

/-- R223: `CP` has the flags of `SUB` and keeps `A`. -/
theorem alu_cp_eq :
    alu .cp a v b = (a,
      { z := decide ((a.toNat + 512 - v.toNat) % 256 = 0), n := true
        h := decide (a.toNat % 16 < v.toNat % 16), c := decide (a.toNat < v.toNat) }) := by
  rw [alu, subWithCarry_eq]
  rfl

/-! `DAA`. -/

/-- The two corrections share no bit, so the model's `or` of them is their sum. -/
theorem adjustment_eq_ofNat (low high : Prop) [Decidable low] [Decidable high] :
    (if low then 0x06#8 else 0x00#8) ||| (if high then 0x60#8 else 0x00#8)
      = BitVec.ofNat 8 ((if low then 0x06 else 0) + (if high then 0x60 else 0)) := by
  split <;> split <;> rfl

theorem adjust_eq_ofNat {adj : Nat} (hadj : adj ≤ 0x66) :
    (if b then a - BitVec.ofNat 8 adj else a + BitVec.ofNat 8 adj)
      = BitVec.ofNat 8 (if b then (a.toNat + 256 - adj) % 256 else (a.toNat + adj) % 256) := by
  cases b with
  | false =>
    show a + BitVec.ofNat 8 adj = BitVec.ofNat 8 ((a.toNat + adj) % 256)
    bv_omega
  | true =>
    show a - BitVec.ofNat 8 adj = BitVec.ofNat 8 ((a.toNat + 256 - adj) % 256)
    bv_omega

/-- R228 in numbers: both corrections are decided by the old `A`. -/
theorem daa_eq (fl : Flags) :
    let low := fl.h = true ∨ (fl.n = false ∧ a.toNat % 16 > 9)
    let high := fl.c = true ∨ (fl.n = false ∧ a.toNat > 0x99)
    let adj := (if low then 0x06 else 0) + (if high then 0x60 else 0)
    let r := if fl.n then (a.toNat + 256 - adj) % 256 else (a.toNat + adj) % 256
    daa a fl = (BitVec.ofNat 8 r, { z := decide (r = 0), n := fl.n, h := false, c := decide high }) := by
  intro low high adj r
  have hlow : (fl.h || (!fl.n && decide (lowNibble a > 9))) = decide low := by simp [low, lowNibble]
  have hhigh : (fl.c || (!fl.n && decide (a.toNat > 0x99))) = decide high := by simp [high]
  have hadj : adj ≤ 0x66 := by simp only [adj]; split <;> split <;> decide
  have hsum : (if fl.n then a - BitVec.ofNat 8 adj else a + BitVec.ofNat 8 adj) = BitVec.ofNat 8 r :=
    adjust_eq_ofNat a fl.n hadj
  have hzero : BitVec.ofNat 8 r = 0#8 ↔ r = 0 := by
    rw [ofNat_eq_zero_iff, Nat.mod_eq_of_lt (by simp only [r]; split <;> omega)]
  have hbits : (if low then 0x06#8 else 0x00#8) ||| (if high then 0x60#8 else 0x00#8) = BitVec.ofNat 8 adj :=
    adjustment_eq_ofNat low high
  simp only [daa, hlow, hhigh, decide_eq_true_eq, hbits, hsum, hzero]

/-! Operands (00_scope.md R9), as the statements write them. -/

variable (s : State) (o : Operand8) (op : AluOp) (n : Byte)

theorem operandCost_eq_costOf (r m : Nat) : operandCost o r m = costOf o r m := by cases o <;> rfl

theorem readOperand_eq : s.readOperand o = (value s o, { s with bus := busAfter s o }) := by
  cases o with
  | reg r => rw [State.readOperand_reg, get_eq_reg]; rfl
  | memHL => rfl

/-- A read and then a write of one operand: the read leaves `HL` alone, so both are at one address. -/
theorem writeOperand_readOperand : (s.readOperand o).2.writeOperand o v = putOperand s o v := by
  cases o with
  | reg r => rw [State.writeOperand_reg, State.setReg, set_eq_withReg]; rfl
  | memHL => rfl

/-! The next state of each shared operation. -/

theorem aluForm_next :
    aluForm op o s = .next { s with
      regs := { s.regs with
        a := (alu op s.regs.a (value s o) (fC s)).1, f := (alu op s.regs.a (value s o) (fC s)).2.toByte }
      bus := busAfter s o, stepCost := costOf o 4 8 } := by
  rw [aluForm, readOperand_eq, operandCost_eq_costOf]
  rfl

theorem aluImmForm_next :
    aluImmForm op n s = .next { s with
      regs := { s.regs with a := (alu op s.regs.a n (fC s)).1, f := (alu op s.regs.a n (fC s)).2.toByte }
      stepCost := 8 } := rfl

theorem modifyOperand_next (cost : Nat) (fl : Flags) :
    finish cost (((s.readOperand o).2.writeOperand o v).setFlags fl) = .next { putOperand s o v with
      regs := { (putOperand s o v).regs with f := fl.toByte }, stepCost := cost } := by
  rw [writeOperand_readOperand]
  rfl

theorem incForm_next :
    incForm o s = .next (
      let t := putOperand s o (BitVec.ofNat 8 ((value s o).toNat + 1))
      { t with
        regs := { t.regs with
          f := flagByte (decide (value s o = 0xFF#8)) false (decide ((value s o).toNat % 16 = 0xF)) (fC s) }
        stepCost := costOf o 4 12 }) := by
  rw [← add_one_eq_ofNat, incForm, modifyOperand_next, State.readOperand_flags, readOperand_eq, operandCost_eq_costOf]
  rfl

theorem decForm_next :
    decForm o s = .next (
      let t := putOperand s o (BitVec.ofNat 8 ((value s o).toNat + 255))
      { t with
        regs := { t.regs with
          f := flagByte (decide (value s o = 0x01#8)) true (decide ((value s o).toNat % 16 = 0x0)) (fC s) }
        stepCost := costOf o 4 12 }) := by
  rw [← sub_one_eq_ofNat, decForm, modifyOperand_next, State.readOperand_flags, readOperand_eq, operandCost_eq_costOf]
  rfl

theorem daaForm_next :
    daaForm s = .next { s with
      regs := { s.regs with a := (daa s.regs.a s.flags).1, f := (daa s.regs.a s.flags).2.toByte }, stepCost := 4 } := rfl

theorem cplForm_next :
    cplForm s = .next { s with
      regs := { s.regs with a := ~~~s.regs.a, f := flagByte (fZ s) true true (fC s) }, stepCost := 4 } := rfl

theorem scfForm_next :
    scfForm s = .next { s with regs := { s.regs with f := flagByte (fZ s) false false true }, stepCost := 4 } := rfl

theorem ccfForm_next :
    ccfForm s = .next { s with regs := { s.regs with f := flagByte (fZ s) false false (!fC s) }, stepCost := 4 } := rfl

/-! The rows of one form: their words, and the shared operation that is their meaning. -/

theorem means_aluOperand : Means [opByte 2 (aluCode op) (operandCode o)] (.aluOperand op o) := by
  cases o with
  | reg r => cases op <;> cases r <;> exact means_of_encode rfl rfl
  | memHL => cases op <;> exact means_of_encode rfl rfl
theorem exec_aluOperand : exec (.aluOperand op o) s = aluForm op o s := by
  cases o with
  | reg r => cases op <;> cases r <;> rfl
  | memHL => cases op <;> rfl

theorem exec_aluImm : exec (.aluImm op n) s = aluImmForm op n s := by cases op <;> rfl

theorem means_inc : Means [opByte 0 (operandCode o) 4] (.inc o) := by
  cases o with
  | reg r => cases r <;> exact means_of_encode rfl rfl
  | memHL => exact means_of_encode rfl rfl
theorem exec_inc : exec (.inc o) s = incForm o s := by
  cases o with
  | reg r => cases r <;> rfl
  | memHL => rfl

theorem means_dec : Means [opByte 0 (operandCode o) 5] (.dec o) := by
  cases o with
  | reg r => cases r <;> exact means_of_encode rfl rfl
  | memHL => exact means_of_encode rfl rfl
theorem exec_dec : exec (.dec o) s = decForm o s := by
  cases o with
  | reg r => cases r <;> rfl
  | memHL => rfl

theorem exec_daa : exec .daa s = daaForm s := rfl

variable {s o op n}

/-- An accumulator operation runs as `alu` says, on the operand read. -/
theorem exec_aluOperand_next {r : Byte} {z sub h c : Bool}
    (hresult : alu op s.regs.a (value s o) (fC s) = (r, { z := z, n := sub, h := h, c := c })) :
    exec (.aluOperand op o) s = .next { s with
      regs := { s.regs with a := r, f := flagByte z sub h c }, bus := busAfter s o, stepCost := costOf o 4 8 } := by
  rw [exec_aluOperand, aluForm_next, hresult]
  rfl

theorem exec_aluImm_next {r : Byte} {z sub h c : Bool}
    (hresult : alu op s.regs.a n (fC s) = (r, { z := z, n := sub, h := h, c := c })) :
    exec (.aluImm op n) s = .next { s with regs := { s.regs with a := r, f := flagByte z sub h c }, stepCost := 8 } := by
  rw [exec_aluImm, aluImmForm_next, hresult]
  rfl

end Sys2Proof.Machine

open Sys2Proof.Machine Sys2Proof.Claims

/-- Settles O20: both operations are `addWithCarry`, `ADD` with no carry in, and its sums are on unbounded naturals. -/
theorem addAccumulator : Obligations.AddAccumulator := by
  unfold Obligations.AddAccumulator
  exact ⟨fun o => ⟨means_aluOperand o .add, fun s => exec_aluOperand_next (addWithCarry_eq s.regs.a (value s o) false)⟩,
    fun n => ⟨means_of_encode rfl rfl, fun s => exec_aluImm_next (addWithCarry_eq s.regs.a n false)⟩,
    fun o => ⟨means_aluOperand o .adc, fun s => exec_aluOperand_next (addWithCarry_eq s.regs.a (value s o) (fC s))⟩,
    fun n => ⟨means_of_encode rfl rfl, fun s => exec_aluImm_next (addWithCarry_eq s.regs.a n (fC s))⟩⟩

/-- Settles O21: the three operations are `subWithCarry`, of which `CP` takes the flags only. -/
theorem subtractAccumulator : Obligations.SubtractAccumulator := by
  unfold Obligations.SubtractAccumulator
  exact ⟨fun o => ⟨means_aluOperand o .sub, fun s => exec_aluOperand_next (subWithCarry_eq s.regs.a (value s o) false)⟩,
    fun n => ⟨means_of_encode rfl rfl, fun s => exec_aluImm_next (subWithCarry_eq s.regs.a n false)⟩,
    fun o => ⟨means_aluOperand o .sbc, fun s => exec_aluOperand_next (subWithCarry_eq s.regs.a (value s o) (fC s))⟩,
    fun n => ⟨means_of_encode rfl rfl, fun s => exec_aluImm_next (subWithCarry_eq s.regs.a n (fC s))⟩,
    fun o => ⟨means_aluOperand o .cp, fun s => exec_aluOperand_next (alu_cp_eq s.regs.a (value s o) (fC s))⟩,
    fun n => ⟨means_of_encode rfl rfl, fun s => exec_aluImm_next (alu_cp_eq s.regs.a n (fC s))⟩⟩

/-- Settles O22: `alu` gives each of the three its bitwise result with the flags of `logicResult`. -/
theorem logicAccumulator : Obligations.LogicAccumulator := by
  unfold Obligations.LogicAccumulator
  exact ⟨fun o => ⟨means_aluOperand o .and, fun s => exec_aluOperand_next rfl⟩,
    fun n => ⟨means_of_encode rfl rfl, fun s => exec_aluImm_next rfl⟩,
    fun o => ⟨means_aluOperand o .xor, fun s => exec_aluOperand_next rfl⟩,
    fun n => ⟨means_of_encode rfl rfl, fun s => exec_aluImm_next rfl⟩,
    fun o => ⟨means_aluOperand o .or, fun s => exec_aluOperand_next rfl⟩,
    fun n => ⟨means_of_encode rfl rfl, fun s => exec_aluImm_next rfl⟩⟩

/-- Settles O23: one read and one write of the operand (`modifyOperand_next`), with the flags of the value read. -/
theorem incrementDecrement : Obligations.IncrementDecrement := by
  unfold Obligations.IncrementDecrement
  refine ⟨fun o => ⟨means_inc o, fun s => ?_⟩, fun o => ⟨means_dec o, fun s => ?_⟩⟩
  · rw [exec_inc, incForm_next]
  · rw [exec_dec, decForm_next]

/-- Settles O24: `DAA` in numbers is `daa_eq`, on the old `A` and the old flags. -/
theorem decimalAdjust : Obligations.DecimalAdjust := by
  unfold Obligations.DecimalAdjust
  refine ⟨means_of_encode rfl rfl, fun s => ?_⟩
  rw [exec_daa, daaForm_next, daa_eq]
  rfl

/-- Settles O25: the next state of each of the three forms. -/
theorem accumulatorFlagOps : Obligations.AccumulatorFlagOps := by
  unfold Obligations.AccumulatorFlagOps
  exact ⟨⟨means_of_encode rfl rfl, cplForm_next⟩, ⟨means_of_encode rfl rfl, scfForm_next⟩,
    ⟨means_of_encode rfl rfl, ccfForm_next⟩⟩
end

section
/-! 16-bit arithmetic on the pairs (43_alu16.md R251 to R253): encoding, result, flags, frame and cost. -/

namespace Sys2Proof.Machine

open Sys2Proof.Claims

theorem pair_eq (r : Regs) (p : Pair) : r.pair p = pair r p := by cases p <;> rfl

/-- R251 in numbers: the bit vector sum of the model is the sum on unbounded naturals, modulo 2^16 (R8). -/
theorem addWords_eq (x v : Word) (fl : Flags) :
    addWords x v fl = (BitVec.ofNat 16 (x.toNat + v.toNat),
      { z := fl.z, n := false
        h := decide (x.toNat % 4096 + v.toNat % 4096 > 0xFFF), c := decide (x.toNat + v.toNat > 0xFFFF) }) := by
  rw [addWords, BitVec.add_def]

variable (s : State) (p : Pair)

/-! The next state of each shared operation. -/

/-- Both operands are read before `HL` is written, so `ADD HL,HL` doubles the old `HL`. -/
theorem addHlForm_next :
    addHlForm p s = .next
      (let x := (hl s).toNat
       let v := (pair s.regs p).toNat
       { s with
         regs := { withPair s.regs .hl (BitVec.ofNat 16 (x + v)) with
           f := flagByte (fZ s) false (decide (x % 4096 + v % 4096 > 0xFFF)) (decide (x + v > 0xFFFF)) }
         stepCost := 8 }) := by
  rw [addHlForm, addWords_eq, pair_eq]
  rfl

theorem incPairForm_next :
    incPairForm p s = .next { s with regs := withPair s.regs p (pair s.regs p + 1#16), stepCost := 8 } := by
  rw [← setPair_eq_withPair, ← pair_eq]
  rfl

theorem decPairForm_next :
    decPairForm p s = .next { s with regs := withPair s.regs p (pair s.regs p - 1#16), stepCost := 8 } := by
  rw [← setPair_eq_withPair, ← pair_eq]
  rfl

/-! The rows of one form: their words, and the shared operation that is their meaning. -/

theorem means_addHl : Means [opByte 0 (2 * pairCode p + 1) 1] (.addHl p) := by cases p <;> exact means_of_encode rfl rfl
theorem exec_addHl : exec (.addHl p) s = addHlForm p s := by cases p <;> rfl

theorem means_incPair : Means [opByte 0 (2 * pairCode p) 3] (.incPair p) := by cases p <;> exact means_of_encode rfl rfl
theorem exec_incPair : exec (.incPair p) s = incPairForm p s := by cases p <;> rfl

theorem means_decPair : Means [opByte 0 (2 * pairCode p + 1) 3] (.decPair p) := by
  cases p <;> exact means_of_encode rfl rfl
theorem exec_decPair : exec (.decPair p) s = decPairForm p s := by cases p <;> rfl

end Sys2Proof.Machine

open Sys2Proof.Machine Sys2Proof.Claims

/-- Settles O26: every pair runs as the one shared operation of its form; `ADD HL,rr` in numbers is `addWords_eq`. -/
theorem pairArithmetic : Obligations.PairArithmetic := by
  unfold Obligations.PairArithmetic
  refine ⟨fun p => ⟨means_addHl p, fun s => ?_⟩, fun p => ⟨means_incPair p, fun s => ?_⟩,
    fun p => ⟨means_decPair p, fun s => ?_⟩⟩
  · rw [exec_addHl, addHlForm_next]
  · rw [exec_incPair, incPairForm_next]
  · rw [exec_decPair, decPairForm_next]
end

section
/-! Rotates, shifts and bits (44_rotate_shift_bit.md R261 to R276): encoding, result, flags, frame and cost. -/

namespace Sys2Proof.Machine

open Sys2Proof.Claims

/-! A bit of a byte as a number. -/

variable (v : Byte) (i : Nat)

theorem bitAt_eq_decide : bitAt v i = decide (bit v i = 1) := Nat.testBit_eq_decide_div_mod_eq

theorem not_bitAt_eq_decide : (!bitAt v i) = decide (bit v i = 0) := by
  rw [bitAt_eq_decide, ← decide_not, bit]
  simp only [Nat.mod_two_not_eq_one]

theorem bit_zero_eq : bit v 0 = v.toNat % 2 := by rw [bit, pow_zero, Nat.div_one]

theorem bit_seven_eq : bit v 7 = v.toNat / 128 := by
  unfold bit
  omega

theorem bitAt_zero_eq : bitAt v 0 = decide (v.toNat % 2 = 1) := by rw [bitAt_eq_decide, bit_zero_eq]

theorem bitAt_seven_eq : bitAt v 7 = decide (v.toNat / 128 = 1) := by rw [bitAt_eq_decide, bit_seven_eq]

theorem toNat_and_two_pow : v.toNat &&& 2 ^ i = bit v i * 2 ^ i := by rw [Nat.and_two_pow, Nat.toNat_testBit, bit]

/-! Rotates and shifts in numbers. -/

theorem toNat_shiftRight_byte : (v >>> i).toNat = v.toNat / 2 ^ i := Nat.shiftRight_eq_div_pow _ _

theorem toNat_shiftLeft_byte : (v <<< i).toNat = 2 ^ i * v.toNat % 256 := by
  rw [BitVec.toNat_shiftLeft, Nat.shiftLeft_eq, mul_comm]

/-- The two parts of a rotated byte share no bit, so the model's `or` of them is their sum. -/
theorem or_eq_ofNat_add {x y : Byte} (k : Nat) (hx : 2 ^ k ∣ x.toNat) (hy : y.toNat < 2 ^ k) :
    x ||| y = BitVec.ofNat 8 (x.toNat + y.toNat) := by
  obtain ⟨m, hm⟩ := hx
  rw [hm, Nat.two_pow_add_eq_or_of_lt hy, ← hm, ← BitVec.toNat_or, BitVec.ofNat_toNat, BitVec.setWidth_eq]

/-- A shift left by `k` that takes in the `k` bits of `y`. -/
theorem shiftLeft_or_eq_ofNat {y : Byte} {k : Nat} (hk : k ≤ 8) (hy : y.toNat < 2 ^ k) :
    v <<< k ||| y = BitVec.ofNat 8 (2 ^ k * v.toNat % 256 + y.toNat) := by
  have hdvd : 2 ^ k ∣ (v <<< k).toNat := by
    rw [toNat_shiftLeft_byte]
    exact (Nat.dvd_mod_iff (pow_dvd_pow 2 hk)).mpr (dvd_mul_right _ _)
  rw [or_eq_ofNat_add k hdvd hy, toNat_shiftLeft_byte]

/-- A shift right by one that takes in the bit `b` at the top. -/
theorem shiftRight_or_eq_ofNat {y : Byte} {b : Nat} (hy : y.toNat = 128 * b) :
    v >>> 1 ||| y = BitVec.ofNat 8 (v.toNat / 2 + 128 * b) := by
  have hlt : (v >>> 1).toNat < 2 ^ 7 := by rw [toNat_shiftRight_byte]; omega
  rw [BitVec.or_comm, or_eq_ofNat_add 7 ⟨b, hy⟩ hlt, toNat_shiftRight_byte, hy, pow_one, add_comm]

theorem toNat_carryIn (c : Bool) : (BitVec.setWidth 8 (BitVec.ofBool c)).toNat = c.toNat := by cases c <;> rfl

theorem toNat_lowBit : (v &&& 1#8).toNat = v.toNat % 2 := Nat.and_one_is_mod v.toNat

theorem toNat_topBit : (v &&& 0x80#8).toNat = 128 * (v.toNat / 128) := by
  rw [← bit_seven_eq, mul_comm]
  exact toNat_and_two_pow v 7

/-- A byte shifted left by seven keeps its lowest bit, at the top. -/
theorem toNat_shiftLeft_seven {y : Byte} {b : Nat} (hy : y.toNat = b) (hb : b < 2) : (y <<< 7).toNat = 128 * b := by
  rw [toNat_shiftLeft_byte, hy]
  omega

theorem rotated_fst_lt (op : RotOp) {c : Nat} (hc : c < 2) : (rotated op v.toNat c).1 < 256 := by
  have := v.isLt
  cases op <;> dsimp only [rotated] <;> omega

theorem rotate_fst (op : RotOp) (c : Bool) : (rotate op v c).1 = BitVec.ofNat 8 (rotated op v.toNat c.toNat).1 := by
  have hlow : v.toNat % 2 < 2 := Nat.mod_lt _ (by decide)
  cases op with
  | rlc =>
    have hb7 : (v >>> 7).toNat = v.toNat / 128 := toNat_shiftRight_byte v 7
    rw [rotate, rotated, shiftLeft_or_eq_ofNat v (by decide) (by omega), hb7, pow_one]
  | rrc => exact shiftRight_or_eq_ofNat v (toNat_shiftLeft_seven (toNat_lowBit v) hlow)
  | rl =>
    rw [rotate, rotated, shiftLeft_or_eq_ofNat v (by decide) (by rw [toNat_carryIn]; exact c.toNat_lt), toNat_carryIn, pow_one]
  | rr => exact shiftRight_or_eq_ofNat v (toNat_shiftLeft_seven (toNat_carryIn c) c.toNat_lt)
  | sla =>
    rw [rotate, rotated]
    bv_omega
  | sra => exact shiftRight_or_eq_ofNat v (toNat_topBit v)
  | swap =>
    have hb4 : (v >>> 4).toNat = v.toNat / 16 := toNat_shiftRight_byte v 4
    have hb0 : 2 ^ 4 * v.toNat % 256 = 16 * (v.toNat % 16) := by omega
    rw [rotate, rotated, shiftLeft_or_eq_ofNat v (by decide) (by omega), hb4, hb0]
  | srl =>
    rw [rotate, rotated]
    bv_omega

theorem rotate_fst_eq_zero_iff (op : RotOp) (c : Bool) : (rotate op v c).1 = 0#8 ↔ (rotated op v.toNat c.toNat).1 = 0 := by
  rw [rotate_fst, ofNat_eq_zero_iff, Nat.mod_eq_of_lt (rotated_fst_lt v op c.toNat_lt)]

theorem rotate_snd (op : RotOp) (c : Bool) : (rotate op v c).2 = decide ((rotated op v.toNat c.toNat).2 = 1) := by
  cases op with
  | rlc | rl | sla => exact bitAt_seven_eq v
  | rrc | rr | sra | srl => exact bitAt_zero_eq v
  | swap => rfl

theorem rotateFlags_eq (op : RotOp) (c : Bool) :
    rotateFlags (rotate op v c).1 (rotate op v c).2 =
      { z := decide ((rotated op v.toNat c.toNat).1 = 0), n := false, h := false
        c := decide ((rotated op v.toNat c.toNat).2 = 1) } := by
  simp only [rotateFlags, rotate_fst_eq_zero_iff, rotate_snd]

/-! `RES` and `SET` in numbers. -/

/-- `v &&& m` and `v &&& ~~~m` share no bit, and their sum is `v`. -/
theorem and_not_eq_sub_and (m : Byte) : v &&& ~~~m = v - (v &&& m) := by
  have hdisjoint : v &&& ~~~m &&& (v &&& m) = 0#8 := by
    rw [BitVec.and_comm v m, ← BitVec.and_assoc, BitVec.and_assoc v, BitVec.not_and_self]
    simp
  rw [BitVec.eq_sub_iff_add_eq, BitVec.add_eq_or_of_and_eq_zero _ _ hdisjoint, ← BitVec.and_or_distrib_left, BitVec.not_or_self,
    BitVec.and_allOnes]

/-- `v` and the bits of `m` that are clear in `v` share no bit. -/
theorem or_eq_add_and_not (m : Byte) : v ||| m = v + (m &&& ~~~v) := by
  have hdisjoint : v &&& (m &&& ~~~v) = 0#8 := by
    rw [BitVec.and_comm m, ← BitVec.and_assoc, BitVec.and_not_self]
    simp
  rw [BitVec.add_eq_or_of_and_eq_zero _ _ hdisjoint]
  ext j
  simp only [BitVec.getElem_or, BitVec.getElem_and, BitVec.getElem_not]
  cases v[j] <;> simp

theorem one_shiftLeft_eq_ofNat : 1#8 <<< i = BitVec.ofNat 8 (2 ^ i) := by
  apply BitVec.eq_of_toNat_eq
  simp [Nat.shiftLeft_eq]

theorem and_one_shiftLeft_eq_ofNat : v &&& 1#8 <<< i = BitVec.ofNat 8 (bit v i * 2 ^ i) := by
  rw [one_shiftLeft_eq_ofNat, ← toNat_and_two_pow, BitVec.ofNat_and, BitVec.ofNat_toNat, BitVec.setWidth_eq]

theorem bit_mul_two_pow_le : bit v i * 2 ^ i ≤ v.toNat :=
  (Nat.mul_le_mul_right _ (Nat.mod_le _ _)).trans (Nat.div_mul_le_self _ _)

theorem withoutBit_eq_ofNat : withoutBit v i = BitVec.ofNat 8 (v.toNat - bit v i * 2 ^ i) := by
  have hle := bit_mul_two_pow_le v i
  rw [withoutBit, and_not_eq_sub_and, and_one_shiftLeft_eq_ofNat]
  bv_omega

theorem withBit_eq_ofNat : withBit v i = BitVec.ofNat 8 (v.toNat + (1 - bit v i) * 2 ^ i) := by
  have hlt : bit v i * 2 ^ i < 256 := (bit_mul_two_pow_le v i).trans_lt v.isLt
  have hle : bit v i * 2 ^ i ≤ 2 ^ i := mul_le_of_le_one_left (Nat.zero_le _) (Nat.le_of_lt_succ (Nat.mod_lt _ two_pos))
  have hclear : 1#8 <<< i &&& ~~~v = BitVec.ofNat 8 ((1 - bit v i) * 2 ^ i) := by
    rw [and_not_eq_sub_and, BitVec.and_comm, and_one_shiftLeft_eq_ofNat, one_shiftLeft_eq_ofNat,
      BitVec.ofNat_sub_ofNat_of_le _ _ hlt hle, Nat.sub_mul, Nat.one_mul]
  rw [withBit, or_eq_add_and_not, hclear, BitVec.ofNat_add, BitVec.ofNat_toNat, BitVec.setWidth_eq]

/-! The next state of each shared operation. -/

variable (s : State) (o : Operand8) (op : RotOp) (b : Nat)

theorem rotateA_next :
    rotateA op s = .next
      (let r := rotated op s.regs.a.toNat (fC s).toNat
       { s with
         regs := { s.regs with a := BitVec.ofNat 8 r.1, f := flagByte false false false (decide (r.2 = 1)) }
         stepCost := 4 }) := by
  rw [rotateA, rotate_fst, rotate_snd]
  rfl

theorem rotateForm_next :
    rotateForm op o s = .next
      (let r := rotated op (value s o).toNat (fC s).toNat
       let t := putOperand s o (BitVec.ofNat 8 r.1)
       { t with
         regs := { t.regs with f := flagByte (decide (r.1 = 0)) false false (decide (r.2 = 1)) }
         stepCost := costOf o 8 16 }) := by
  rw [rotateForm, modifyOperand_next, State.readOperand_flags, readOperand_eq, operandCost_eq_costOf, rotateFlags_eq, rotate_fst]
  rfl

theorem bitForm_next :
    bitForm b o s = .next { s with
      regs := { s.regs with f := flagByte (decide (bit (value s o) b = 0)) false true (fC s) }
      bus := busAfter s o, stepCost := costOf o 8 12 } := by
  rw [← not_bitAt_eq_decide, bitForm, readOperand_eq, operandCost_eq_costOf]
  rfl

theorem resForm_next :
    resForm b o s = .next { putOperand s o (BitVec.ofNat 8 ((value s o).toNat - bit (value s o) b * 2 ^ b)) with
      stepCost := costOf o 8 16 } := by
  rw [resForm, writeOperand_readOperand, readOperand_eq, withoutBit_eq_ofNat, operandCost_eq_costOf]
  rfl

theorem setForm_next :
    setForm b o s = .next { putOperand s o (BitVec.ofNat 8 ((value s o).toNat + (1 - bit (value s o) b) * 2 ^ b)) with
      stepCost := costOf o 8 16 } := by
  rw [setForm, writeOperand_readOperand, readOperand_eq, withBit_eq_ofNat, operandCost_eq_costOf]
  rfl

/-! The rows of one form on the secondary page (R151): their second byte, and the shared operation that is their meaning. -/

/-- The two bytes of a row of the secondary page are its instruction. -/
theorem means_of_decodeSecondary {op2 : Byte} {i : Instr} (h : decodeSecondary op2 = i) : Means [0xCB#8, op2] i :=
  h ▸ means_of_encode (wf_decodeSecondary op2) (encode_decodeSecondary op2)

theorem decodeSecondary_rotate : decodeSecondary (opByte 0 (rotCode op) (operandCode o)) = .rotate op o := by
  rcases o with ⟨⟨⟩⟩ | _ <;> cases op <;> rfl
theorem exec_rotate : exec (.rotate op o) s = rotateForm op o s := by rcases o with ⟨⟨⟩⟩ | _ <;> cases op <;> rfl

variable (b : Fin 8)

theorem decodeSecondary_bit : decodeSecondary (opByte 1 b.val (operandCode o)) = .bit b o := by
  rcases o with ⟨⟨⟩⟩ | _ <;> fin_cases b <;> rfl
theorem exec_bit : exec (.bit b o) s = bitForm b o s := by rcases o with ⟨⟨⟩⟩ | _ <;> fin_cases b <;> rfl

theorem decodeSecondary_res : decodeSecondary (opByte 2 b.val (operandCode o)) = .res b o := by
  rcases o with ⟨⟨⟩⟩ | _ <;> fin_cases b <;> rfl
theorem exec_res : exec (.res b o) s = resForm b o s := by rcases o with ⟨⟨⟩⟩ | _ <;> fin_cases b <;> rfl

theorem decodeSecondary_set : decodeSecondary (opByte 3 b.val (operandCode o)) = .set b o := by
  rcases o with ⟨⟨⟩⟩ | _ <;> fin_cases b <;> rfl
theorem exec_set : exec (.set b o) s = setForm b o s := by rcases o with ⟨⟨⟩⟩ | _ <;> fin_cases b <;> rfl

end Sys2Proof.Machine

open Sys2Proof.Machine Sys2Proof.Claims

/-- Settles O28: each of the four is the shared accumulator rotate, in numbers by `rotate_fst` and `rotate_snd`. -/
theorem rotateAccumulator : Obligations.RotateAccumulator := by
  unfold Obligations.RotateAccumulator
  exact ⟨⟨means_of_encode rfl rfl, fun s => rotateA_next s .rlc⟩, ⟨means_of_encode rfl rfl, fun s => rotateA_next s .rrc⟩,
    ⟨means_of_encode rfl rfl, fun s => rotateA_next s .rl⟩, ⟨means_of_encode rfl rfl, fun s => rotateA_next s .rr⟩⟩

/-- Settles O29: one read and one write of the operand, with the result and the flags in numbers (`rotateForm_next`). -/
theorem rotateOperand : Obligations.RotateOperand := by
  unfold Obligations.RotateOperand
  refine fun op o => ⟨means_of_decodeSecondary (decodeSecondary_rotate o op), fun s => ?_⟩
  rw [exec_rotate, rotateForm_next]

/-- Settles O30: `BIT` only reads; `RES` and `SET` take off or add the weight of the bit (`withoutBit_eq_ofNat`,
`withBit_eq_ofNat`). -/
theorem bitInstructions : Obligations.BitInstructions := by
  unfold Obligations.BitInstructions
  refine ⟨fun b o => ⟨means_of_decodeSecondary (decodeSecondary_bit o b), fun s => ?_⟩,
    fun b o => ⟨means_of_decodeSecondary (decodeSecondary_res o b), fun s => ?_⟩,
    fun b o => ⟨means_of_decodeSecondary (decodeSecondary_set o b), fun s => ?_⟩⟩
  · rw [exec_bit, bitForm_next]
  · rw [exec_res, resForm_next]
  · rw [exec_set, setForm_next]
end

section
/-! Jumps, calls, returns and restarts (45_control.md R291 to R302): encoding, target, stack, frame and cost. -/

namespace Sys2Proof.Machine

open Sys2Proof.Claims

variable (s : State) (cc : Cond) (t : Fin 8) (nn : Word) (e : Byte)

/-! The next state of each shared operation. -/

theorem relativeTarget_eq : relativeTarget s e = s.regs.pc + signed e := by
  rw [relativeTarget, sext16_eq_signed]

/-- What is pushed is the `PC` after the instruction. -/
theorem callTo_eq :
    callTo nn s = { s with
      regs := { s.regs with sp := s.regs.sp - 2#16, pc := nn }, bus := pushed s s.regs.pc } := by
  rw [callTo, State.push16_eq]
  rfl

theorem returnTo_eq :
    returnTo s = { s with
      regs := { s.regs with sp := s.regs.sp + 2#16, pc := popped s }, bus := busAfterPop s } := by
  rw [returnTo, State.pop16_eq]
  rfl

theorem returnFromInterrupt_eq : returnFromInterrupt s = { returnTo s with ime := true } := rfl

/-- R290: a conditional form answers a next state on both branches, chosen by the flags of the state it starts in. -/
theorem finish_ite_holds (taken : State) (m n : Nat) :
    (if condHolds s.flags cc then finish m taken else finish n s)
      = .next (if holds s cc then { taken with stepCost := m } else { s with stepCost := n }) := by
  rw [condHolds_flags]
  split
  exacts [rfl, rfl]

theorem jumpTo_next (cost : Nat) : jumpTo cost nn s = .next { s with regs := { s.regs with pc := nn }, stepCost := cost } := rfl

theorem jumpIf_next :
    jumpIf cc nn s = .next
      (if holds s cc then { s with regs := { s.regs with pc := nn }, stepCost := 16 } else { s with stepCost := 12 }) :=
  finish_ite_holds s cc _ 16 12

theorem jumpRelative_next :
    jumpRelative e s = .next { s with regs := { s.regs with pc := s.regs.pc + signed e }, stepCost := 12 } := by
  rw [jumpRelative, relativeTarget_eq]
  rfl

theorem jumpRelativeIf_next :
    jumpRelativeIf cc e s = .next
      (if holds s cc then { s with regs := { s.regs with pc := s.regs.pc + signed e }, stepCost := 12 }
       else { s with stepCost := 8 }) := by
  rw [jumpRelativeIf, relativeTarget_eq]
  exact finish_ite_holds s cc _ 12 8

/-- `CALL` and `RST` alike, each with its cost. -/
theorem finish_callTo (cost : Nat) :
    finish cost (callTo nn s) = .next { s with
      regs := { s.regs with sp := s.regs.sp - 2#16, pc := nn }, bus := pushed s s.regs.pc, stepCost := cost } := by
  rw [callTo_eq]
  rfl

theorem callIf_next :
    callIf cc nn s = .next
      (if holds s cc then { s with
        regs := { s.regs with sp := s.regs.sp - 2#16, pc := nn }, bus := pushed s s.regs.pc, stepCost := 24 }
       else { s with stepCost := 12 }) := by
  rw [callIf, callTo_eq]
  exact finish_ite_holds s cc _ 24 12

theorem retForm_next :
    retForm s = .next { s with
      regs := { s.regs with sp := s.regs.sp + 2#16, pc := popped s }, bus := busAfterPop s, stepCost := 16 } := by
  rw [retForm, returnTo_eq]
  rfl

theorem retIf_next :
    retIf cc s = .next
      (if holds s cc then { s with
        regs := { s.regs with sp := s.regs.sp + 2#16, pc := popped s }, bus := busAfterPop s, stepCost := 20 }
       else { s with stepCost := 8 }) := by
  rw [retIf, returnTo_eq]
  exact finish_ite_holds s cc _ 20 8

theorem retiForm_next :
    retiForm s = .next { s with
      regs := { s.regs with sp := s.regs.sp + 2#16, pc := popped s }, bus := busAfterPop s, ime := true, stepCost := 16 } := by
  rw [retiForm, returnFromInterrupt_eq, returnTo_eq]
  rfl

/-! The rows of one form: their words, and the shared operation that is their meaning. -/

theorem means_jumpCond : Means [opByte 3 (condCode cc) 2, low nn, high nn] (.jumpCond cc nn) := by
  cases cc <;> exact means_of_encode rfl rfl
theorem exec_jumpCond : exec (.jumpCond cc nn) s = jumpIf cc nn s := by cases cc <;> rfl

theorem means_jumpRelCond : Means [opByte 0 (4 + condCode cc) 0, e] (.jumpRelCond cc e) := by
  cases cc <;> exact means_of_encode rfl rfl
theorem exec_jumpRelCond : exec (.jumpRelCond cc e) s = jumpRelativeIf cc e s := by cases cc <;> rfl

theorem means_callCond : Means [opByte 3 (condCode cc) 4, low nn, high nn] (.callCond cc nn) := by
  cases cc <;> exact means_of_encode rfl rfl
theorem exec_callCond : exec (.callCond cc nn) s = callIf cc nn s := by cases cc <;> rfl

theorem means_retCond : Means [opByte 3 (condCode cc) 0] (.retCond cc) := by cases cc <;> exact means_of_encode rfl rfl
theorem exec_retCond : exec (.retCond cc) s = retIf cc s := by cases cc <;> rfl

theorem means_rst : Means [opByte 3 t.val 7] (.rst t) := by fin_cases t <;> exact means_of_encode rfl rfl
theorem exec_rst : exec (.rst t) s = restart (BitVec.ofNat 16 (8 * t.val)) s := by fin_cases t <;> rfl

end Sys2Proof.Machine

open Sys2Proof.Machine Sys2Proof.Claims

/-- Settles O31: the jumps set `PC` only, to the operand or to `HL` itself; the condition chooses in `jumpIf_next`. -/
theorem jumpAbsolute : Obligations.JumpAbsolute := by
  unfold Obligations.JumpAbsolute
  refine ⟨fun nn => ⟨means_of_encode rfl rfl, fun s => jumpTo_next s nn 16⟩, fun cc nn => ⟨means_jumpCond cc nn, fun s => ?_⟩,
    ⟨means_of_encode rfl rfl, fun s => jumpTo_next s (hl s) 4⟩⟩
  rw [exec_jumpCond, jumpIf_next]

/-- Settles O32: the target is `PC` after the displacement byte plus the signed displacement (`relativeTarget_eq`). -/
theorem jumpRelative : Obligations.JumpRelative := by
  unfold Obligations.JumpRelative
  refine ⟨fun e => ⟨means_of_encode rfl rfl, fun s => jumpRelative_next s e⟩, fun cc e => ⟨means_jumpRelCond cc e, fun s => ?_⟩⟩
  rw [exec_jumpRelCond, jumpRelativeIf_next]

/-- Settles O33: calls and restarts are one push of `PC` and one jump (`callTo_eq`); a call not taken leaves the stack alone. -/
theorem callAndRestart : Obligations.CallAndRestart := by
  unfold Obligations.CallAndRestart
  refine ⟨fun nn => ⟨means_of_encode rfl rfl, fun s => finish_callTo s nn 24⟩,
    fun cc nn => ⟨means_callCond cc nn, fun s => ?_⟩, fun t => ⟨means_rst t, fun s => ?_⟩⟩
  · rw [exec_callCond, callIf_next]
  · rw [exec_rst, restart, finish_callTo]

/-- Settles O34: the returns are one pop into `PC` (`returnTo_eq`); a return not taken reads nothing, and `RETI` also sets `ime`. -/
theorem returns : Obligations.Returns := by
  unfold Obligations.Returns
  refine ⟨⟨means_of_encode rfl rfl, retForm_next⟩, fun cc => ⟨means_retCond cc, fun s => ?_⟩,
    ⟨means_of_encode rfl rfl, retiForm_next⟩⟩
  rw [exec_retCond, retIf_next]
end

section
/-! System instructions, the row 0xCB and the illegal opcodes (46_system.md R310 to R317), and the part of the CPU step they need:
the commit of `EI`, the fetch that no interrupt precedes, and the fault of an illegal opcode (60_exceptions.md R333, R345). -/

namespace Sys2Proof.Machine

open Sys2Proof.Claims

variable {s : State}

/-! The step by what it does before fetching (R330, R333). -/

theorem step_eq_thenDevices (s : State) : step s = thenDevices (cpuStep s) := by
  unfold step systemStep
  cases cpuStep s <;> rfl

/-- R333 (b): a machine neither locked nor idle commits `EI`, then tests for interrupts and fetches. -/
theorem cpuStep_running (hlocked : s.locked = false) (hhalted : s.halted = false) : cpuStep s = dispatchOrFetch s.commitIme := by
  rw [cpuStep, hlocked, hhalted]
  rfl

theorem State.commitIme_of_scheduled (h : s.imeScheduled = true) : s.commitIme = { s with ime := true, imeScheduled := false } :=
  if_pos h

theorem State.commitIme_of_not_scheduled (h : s.imeScheduled = false) : s.commitIme = s := if_neg (by simp [h])

theorem State.pending_eq_decide_requests (s : State) : s.pending = decide (requests s ≠ 0#8) := rfl

/-- R333 (c): with `ime` clear or no enabled request there is no dispatch. -/
theorem dispatchOrFetch_of_no_dispatch (h : s.ime = false ∨ requests s = 0#8) : dispatchOrFetch s = fetchExecute s := by
  rw [dispatchOrFetch, State.pending_eq_decide_requests, if_neg]
  rcases h with h | h <;> simp [h]

/-- R333 (d): then the step is the instruction fetched at `PC`, followed by the devices. -/
theorem step_of_no_dispatch (hlocked : s.locked = false) (hhalted : s.halted = false) (hscheduled : s.imeScheduled = false)
    (h : s.ime = false ∨ requests s = 0#8) : step s = thenDevices (fetchExecute s) := by
  rw [step_eq_thenDevices, cpuStep_running hlocked hhalted, State.commitIme_of_not_scheduled hscheduled,
    dispatchOrFetch_of_no_dispatch h]

/-! Illegal opcodes (R317). -/

/-- Fetching one byte, as the statements write it: a fetch from 0xFF00 is a read of the joypad register (R122). -/
theorem State.fetch8_snd_eq_fetched (s : State) : s.fetch8.2 = fetched s 1 := by
  rw [State.fetch8_snd, Bus.afterRead]
  simp only [Bus.joypadLow_ne_iff, fetched, List.range_one, List.any_cons, List.any_nil, Bool.or_false, BitVec.add_zero,
    beq_iff_eq]
  rfl

theorem fetchExecute_of_one_byte (h : instrLen (s.bus.peek s.regs.pc) = 1) :
    fetchExecute s = exec (decodeOp (s.bus.peek s.regs.pc) 0#8 0#8) (fetched s 1) := by
  rw [fetchExecute, fetchInstr_eq]
  dsimp only
  rw [if_pos h, State.fetch8_snd_eq_fetched]

/-- An illegal opcode is a one-byte row whose meaning is its fault. -/
theorem illegalOpcode_row (s : State) :
    ∀ op ∈ illegalOpcodes, instrLen op = 1 ∧ exec (decodeOp op 0#8 0#8) s = raiseIllegal op s := by
  simp only [illegalOpcodes, List.forall_mem_cons, List.not_mem_nil, false_imp_iff, implies_true, and_true]
  and_intros <;> rfl

theorem fetchExecute_illegal (h : s.bus.peek s.regs.pc ∈ illegalOpcodes) :
    fetchExecute s = raiseIllegal (s.bus.peek s.regs.pc) (fetched s 1) := by
  obtain ⟨hlen, hexec⟩ := illegalOpcode_row (fetched s 1) _ h
  rw [fetchExecute_of_one_byte hlen, hexec]

/-! The row 0xCB (R315). -/

/-- It has no effect of its own: it is the instruction that its second byte decodes to. -/
theorem exec_prefixCB (s : State) (op2 : Byte) : exec (.prefixCB op2) s = exec (decodeSecondary op2) s :=
  (exec_decodeSecondary s op2).symm

end Sys2Proof.Machine

open Sys2Proof Sys2Proof.Machine Sys2Proof.Claims

/-- Settles O37: the row 0xCB runs what its second byte decodes to (`exec_prefixCB`), which for each choice of the fields is the
row they select; 0xCB is a legal opcode, so it answers (`costTable`). -/
theorem prefixSelects : Obligations.PrefixSelects := by
  unfold Obligations.PrefixSelects
  refine ⟨fun op o s => ?_, fun b o s => ?_, fun b o s => ?_, fun b o s => ?_, fun op2 rest => ?_, fun op2 s => ?_⟩
  · rw [exec_prefixCB, decodeSecondary_rotate]
  · rw [exec_prefixCB, decodeSecondary_bit]
  · rw [exec_prefixCB, decodeSecondary_res]
  · rw [exec_prefixCB, decodeSecondary_set]
  · exact ⟨decodeSecondary op2, rfl, fun s => exec_prefixCB s op2⟩
  · obtain ⟨t, hnext, -⟩ := costTable 0xCB#8 op2 0#8 s (by decide)
    exact ⟨t, (exec_prefixCB s op2).trans hnext⟩

/-- Settles O10: the eleven rows by evaluation; a step that fetches one of them ends in its fault, which stops the devices
(`fetchExecute_illegal`), and a locked machine faults before anything else (`cpuStep_locked`). -/
theorem illegalOpcodeFaults : Obligations.IllegalOpcodeFaults := by
  unfold Obligations.IllegalOpcodeFaults
  iterate 11 refine ⟨⟨means_of_encode rfl rfl, fun _ => rfl⟩, ?_⟩
  refine ⟨?_, fun s hlocked => ?_⟩
  · rintro s op hop rfl hlocked hhalted hscheduled hdispatch
    rw [step_of_no_dispatch hlocked hhalted hscheduled hdispatch, fetchExecute_illegal hop]
    rfl
  · rw [step_eq_thenDevices, cpuStep_locked hlocked]
    rfl

/-- Settles O35: the four rows set at most `ime` and the scheduled enable; the commit leaves a state with nothing to commit, so
both steps go on alike from there. -/
theorem systemInstructions : Obligations.SystemInstructions := by
  unfold Obligations.SystemInstructions
  refine ⟨⟨means_of_encode rfl rfl, fun _ => rfl⟩, fun _ => ⟨means_of_encode rfl rfl, fun _ => rfl⟩,
    ⟨means_of_encode rfl rfl, fun _ => rfl⟩, ⟨means_of_encode rfl rfl, fun _ => rfl⟩, fun s hlocked hhalted hscheduled => ?_⟩
  have hleft : cpuStep s = dispatchOrFetch { s with ime := true, imeScheduled := false } := by
    rw [cpuStep_running hlocked hhalted, State.commitIme_of_scheduled hscheduled]
  have hright : cpuStep { s with ime := true, imeScheduled := false }
      = dispatchOrFetch { s with ime := true, imeScheduled := false } :=
    cpuStep_running hlocked hhalted
  rw [step_eq_thenDevices, step_eq_thenDevices, hleft, hright]
end

section
/-! The CPU step and the system step (60_exceptions.md R330 to R345): the halted step, the dispatch of an interrupt, the
stack-pointer guard, the fetch of the bytes at `PC`, and what a step can answer. -/

namespace Sys2Proof.Machine

open Sys2Proof.Claims

variable {s : State}

/-- R332: a halted machine idles for one step, and wakes exactly if an enabled request is pending. -/
theorem cpuStep_halted (hlocked : s.locked = false) (hhalted : s.halted = true) :
    cpuStep s = .next { s with halted := decide (requests s = 0#8), stepCost := 4 } := by
  have hidle : s.haltedStep = { s with halted := decide (requests s = 0#8), stepCost := 4 } := by
    rw [State.haltedStep, State.pending_eq_decide_requests, decide_not, Bool.not_not]
  rw [← hidle, cpuStep, if_neg (by simp [hlocked]), if_pos hhalted]

/-! Dispatch (R333 (c), R338 to R340). -/

/-- The commit of `EI` changes no request. -/
@[simp] theorem requests_commitIme (s : State) : requests s.commitIme = requests s := by
  simp only [requests, State.commitIme_bus]

/-- The source that is taken is the lowest set bit (R338). -/
theorem lowestRequest_eq {v : Byte} {i : Nat} (hi : i < 5) (hset : v.getLsbD i = true)
    (hlow : ∀ j, j < i → v.getLsbD j = false) : lowestRequest v = i := by
  unfold lowestRequest bitAt
  interval_cases i
  · rw [if_pos hset]
  · rw [hlow 0 (by decide), hset]; rfl
  · rw [hlow 0 (by decide), hlow 1 (by decide), hset]; rfl
  · rw [hlow 0 (by decide), hlow 1 (by decide), hlow 2 (by decide), hset]; rfl
  · rw [hlow 0 (by decide), hlow 1 (by decide), hlow 2 (by decide), hlow 3 (by decide)]; rfl

/-- R339: the state a dispatch of source `i` leaves. -/
theorem takeInterrupt_eq {i : Nat} (hi : lowestRequest (requests s) = i) :
    takeInterrupt s = { s with
      regs := { s.regs with sp := s.regs.sp - 2#16, pc := BitVec.ofNat 16 (0x40 + 8 * i) }
      ime := false
      bus := pushed { s with bus := s.bus.setIo 0x0F (s.bus.ioAt 0x0F &&& ~~~(1#8 <<< i)) } s.regs.pc
      stepCost := 20 } := by
  subst hi
  unfold takeInterrupt
  dsimp only
  rw [State.push16_eq]
  rfl

/-- With `ime` set and a request pending the step takes the interrupt, unless the guard fires. -/
theorem dispatchOrFetch_of_dispatch (hime : s.ime = true) (hpending : requests s ≠ 0#8)
    (hguard : ¬ s.regs.sp.toNat < s.params.spGuardThreshold.toNat) : dispatchOrFetch s = .next (takeInterrupt s) := by
  rw [dispatchOrFetch, State.pending_eq_decide_requests, guardFires, if_pos (by simp [hime, hpending]),
    if_neg (by simpa using hguard)]

/-- R340: where the guard fires, the step goes on with the ordinary fetch, all of `IF` cleared. -/
theorem dispatchOrFetch_of_guard (hime : s.ime = true) (hpending : requests s ≠ 0#8)
    (hguard : s.regs.sp.toNat < s.params.spGuardThreshold.toNat) : dispatchOrFetch s = fetchExecute s.discardRequests := by
  rw [dispatchOrFetch, State.pending_eq_decide_requests, guardFires, if_pos (by simp [hime, hpending]),
    if_pos (by simpa using hguard)]

/-- With `IF` all zero nothing is pending. -/
theorem requests_discardRequests (s : State) : requests s.discardRequests = 0#8 := by
  have hifl : s.discardRequests.bus.ioAt 0x0F = 0#8 := Bus.ioAt_setIo_same s.bus Io.ifl 0#8
  rw [requests, hifl, BitVec.zero_and, BitVec.zero_and]

/-! Fetching (30_encoding.md R155). -/

/-- Addresses less than 2^16 bytes apart are different. -/
theorem word_add_ofNat_inj (a : Word) {k n : Nat} (hk : k < 0x10000) (hn : n < 0x10000)
    (h : a + BitVec.ofNat 16 k = a + BitVec.ofNat 16 n) : k = n := by
  have := congrArg BitVec.toNat (BitVec.add_right_inj a |>.mp h)
  rwa [toNat_address hk, toNat_address hn] at this

/-- One of the first `n` bytes from `PC` on stands at 0xFF00, and a selected button is pressed there (R122). -/
def FetchesJoypad (s : State) (n : Nat) : Prop :=
  ((List.range n).any fun k => s.regs.pc + BitVec.ofNat 16 k == 0xFF00#16) ∧ (s.bus.peek 0xFF00#16).toNat % 16 ≠ 15

theorem fetchesJoypad_iff (s : State) (n : Nat) : FetchesJoypad s n ↔
    (∃ k < n, s.regs.pc + BitVec.ofNat 16 k = 0xFF00#16) ∧ (s.bus.peek 0xFF00#16).toNat % 16 ≠ 15 := by
  simp only [FetchesJoypad, List.any_eq_true, List.mem_range, beq_iff_eq]

theorem fetched_regs (s : State) (n : Nat) : (fetched s n).regs = { s.regs with pc := s.regs.pc + BitVec.ofNat 16 n } := rfl

theorem fetched_bus_of_joypad {n : Nat} (h : FetchesJoypad s n) : (fetched s n).bus = s.bus.request 4 := if_pos h

theorem fetched_bus_of_not_joypad {n : Nat} (h : ¬ FetchesJoypad s n) : (fetched s n).bus = s.bus := if_neg h

/-- The bus after one byte more: the joypad request comes from the one fetch at 0xFF00. -/
theorem fetched_bus_succ (s : State) {n : Nat} (hn : n < 0x10000) :
    (fetched s (n + 1)).bus = (fetched s n).bus.afterRead (s.regs.pc + BitVec.ofNat 16 n) := by
  by_cases hat : s.regs.pc + BitVec.ofNat 16 n = 0xFF00#16
  · have hfirst : ¬ FetchesJoypad s n := by
      rw [fetchesJoypad_iff]
      rintro ⟨⟨k, hk, hpc⟩, -⟩
      exact hk.ne (word_add_ofNat_inj _ (by omega) hn (hpc.trans hat.symm))
    rw [fetched_bus_of_not_joypad hfirst, Bus.afterRead]
    by_cases hpressed : s.bus.joypadLow ≠ 0x0F#8
    · rw [if_pos ⟨hat, hpressed⟩]
      exact fetched_bus_of_joypad ((fetchesJoypad_iff _ _).mpr ⟨⟨n, by omega, hat⟩, s.bus.joypadLow_ne_iff.mp hpressed⟩)
    · rw [if_neg fun h => hpressed h.2]
      exact fetched_bus_of_not_joypad fun h => hpressed (s.bus.joypadLow_ne_iff.mpr h.2)
  · have hsame : FetchesJoypad s (n + 1) ↔ FetchesJoypad s n := by
      simp only [fetchesJoypad_iff, Nat.exists_lt_succ_right, hat, or_false]
    rw [Bus.afterRead_other _ hat]
    by_cases h : FetchesJoypad s n
    · rw [fetched_bus_of_joypad h, fetched_bus_of_joypad (hsame.mpr h)]
    · rw [fetched_bus_of_not_joypad h, fetched_bus_of_not_joypad (mt hsame.mp h)]

theorem fetch8_snd_fetched (s : State) {n : Nat} (hn : n < 0x10000) : (fetched s n).fetch8.2 = fetched s (n + 1) := by
  have hpc : s.regs.pc + BitVec.ofNat 16 n + 1#16 = s.regs.pc + BitVec.ofNat 16 (n + 1) := by
    rw [BitVec.add_assoc, ← BitVec.ofNat_add]
  have hbus := fetched_bus_succ s hn
  rw [State.fetch8_snd, fetched_regs]
  dsimp only
  rw [hpc, ← hbus]
  rfl

/-- The joypad request of a fetch does not reach the bytes fetched after it: `IF` is 15 bytes on. -/
theorem peek_fetched (s : State) {n : Nat} (hn : n < 15) :
    (fetched s n).bus.peek (fetched s n).regs.pc = s.bus.peek (s.regs.pc + BitVec.ofNat 16 n) := by
  rw [fetched_regs]
  by_cases h : FetchesJoypad s n
  · rw [fetched_bus_of_joypad h]
    obtain ⟨⟨k, hk, hpc⟩, -⟩ := (fetchesJoypad_iff s n).mp h
    refine s.bus.peek_request 4 ?_
    bv_omega
  · rw [fetched_bus_of_not_joypad h]

/-- A fetch is the decoder on the three bytes at `PC`, with as many of them fetched as it takes. -/
theorem fetchInstr_of_decode {i : Instr} {rest : List Byte} (h : decode (bytesAtPc s) = .ok (i, rest)) :
    fetchInstr s = (i, fetched s (3 - rest.length)) := by
  have hsnd1 : s.fetch8.2 = fetched s 1 := s.fetch8_snd_eq_fetched
  have hbyte1 : (fetched s 1).bus.peek (fetched s 1).regs.pc = s.bus.peek (s.regs.pc + 1#16) := peek_fetched s (by decide)
  have hsnd2 : (fetched s 1).fetch8.2 = fetched s 2 := fetch8_snd_fetched s (by decide)
  have hbyte2 : (fetched s 2).bus.peek (fetched s 2).regs.pc = s.bus.peek (s.regs.pc + 2#16) := peek_fetched s (by decide)
  have hsnd3 : (fetched s 2).fetch8.2 = fetched s 3 := fetch8_snd_fetched s (by decide)
  rw [fetchInstr_eq]
  dsimp only
  rw [hsnd1, hbyte1, hsnd2, hbyte2, hsnd3]
  unfold bytesAtPc at h
  rcases instrLen_cases (s.bus.peek s.regs.pc) with hlen | hlen | hlen
  · simp only [decode, hlen] at h
    cases h
    simp [hlen]
  · simp only [decode, hlen] at h
    cases h
    simp [hlen]
  · simp only [decode, hlen] at h
    cases h
    simp [hlen]

end Sys2Proof.Machine

open Sys2Proof Sys2Proof.Machine Sys2Proof.Claims

/-- Settles O5: the definitions of the two steps; the audio placeholder is the identity. -/
theorem systemStepOrder : Obligations.SystemStepOrder := by
  unfold Obligations.SystemStepOrder
  exact ⟨step_eq_thenDevices, fun _ _ => rfl⟩

/-- Settles O6: a locked machine answers no next state; any other answers one of a legal cost (`cpuStep_does`). -/
theorem costBound : Obligations.CostBound := by
  unfold Obligations.CostBound
  intro s t hnext
  cases hlocked : s.locked with
  | true =>
    rw [cpuStep_locked hlocked] at hnext
    cases hnext
  | false =>
    rcases cpuStep_does hlocked with ⟨u, hu, -, hcost⟩ | ⟨op, left, -, -, hfault⟩
    · rw [hu] at hnext
      cases hnext
      exact hcost
    · rw [hfault] at hnext
      cases hnext

/-- Settles O8: the commit leaves `ime` set and the requests as they were, so the lowest of them is taken. -/
theorem interruptDispatch : Obligations.InterruptDispatch := by
  unfold Obligations.InterruptDispatch
  intro s i hlocked hhalted hime hi hset hlow hguard
  have hime' : s.commitIme.ime = true := by simpa using hime
  have hpending : requests s ≠ 0#8 := fun h => by simp [h] at hset
  rw [cpuStep_running hlocked hhalted,
    dispatchOrFetch_of_dispatch hime' (by simpa using hpending) (by simpa using hguard),
    takeInterrupt_eq (i := i) (by rw [requests_commitIme]; exact lowestRequest_eq hi hset hlow)]
  simp [pushed]

/-- Settles O9: where the guard fires the step fetches with `IF` all zero, and so does the step of that state, in which nothing is
pending. -/
theorem guardDiscards : Obligations.GuardDiscards := by
  unfold Obligations.GuardDiscards
  intro s hlocked hhalted hscheduled hime hpending hguard
  have hnone : requests s.discardRequests = 0#8 := requests_discardRequests s
  have hstep : step s = thenDevices (fetchExecute s.discardRequests) := by
    rw [step_eq_thenDevices, cpuStep_running hlocked hhalted, State.commitIme_of_not_scheduled hscheduled,
      dispatchOrFetch_of_guard hime hpending hguard]
  exact ⟨hstep.trans (step_of_no_dispatch (s := s.discardRequests) hlocked hhalted hscheduled (.inr hnone)).symm, hnone⟩

/-- Settles O11: what a CPU step of a machine not locked answers (`cpuStep_does`); the devices always go on. -/
theorem stepStopsOnlyAtIllegal : Obligations.StepStopsOnlyAtIllegal := by
  unfold Obligations.StepStopsOnlyAtIllegal
  intro s hlocked
  rw [step_eq_thenDevices]
  rcases cpuStep_does hlocked with ⟨t, hnext, -, -⟩ | ⟨op, left, hop, hleft, hfault⟩
  · exact .inl ⟨devices t, by rw [hnext]; rfl⟩
  · exact .inr ⟨op, left, hop, hleft, by rw [hfault]; rfl⟩

/-- Settles O4: no dispatch comes first, and the fetch is the decoder on the bytes at `PC` (`fetchInstr_of_decode`); what
is decoded is well formed and takes at least one byte. -/
theorem stepRunsDecoded : Obligations.StepRunsDecoded := by
  unfold Obligations.StepRunsDecoded
  intro s i rest hlocked hhalted hscheduled hdispatch hdecode
  have hfetch : fetchExecute s = exec i (fetched s (3 - rest.length)) := by
    rw [fetchExecute, fetchInstr_of_decode hdecode]
  obtain ⟨op, b1, b2, rfl, hbytes⟩ := decode_ok hdecode
  refine ⟨wf_decodeOp op b1 b2, ?_, ?_⟩
  · have hlength := congrArg List.length hbytes
    have hlen := instrLen_cases op
    simp only [bytesAtPc, List.length_append, List.length_take, List.length_cons, List.length_nil] at hlength
    omega
  · rw [step_of_no_dispatch hlocked hhalted hscheduled hdispatch, hfetch]

/-- Settles O36: the row of `HALT` by evaluation, and the halted step (`cpuStep_halted`). -/
theorem haltAndWake : Obligations.HaltAndWake := by
  unfold Obligations.HaltAndWake
  exact ⟨⟨means_of_encode rfl rfl, fun _ => rfl⟩, fun _ => cpuStep_halted⟩
end

section
/-! The two DMA units (60_exceptions.md R420, R424, R425). -/

namespace Sys2Proof.Machine

open Sys2Proof.Claims

namespace Bus

variable (b : Bus)

/-! The OAM DMA (R420). -/

/-- The source address of byte `n` of the copy from a page. -/
theorem toNat_oamSource (page : Byte) {n : Nat} (hn : n < 256) :
    (mkWord page 0x00#8 + BitVec.ofNat 16 n).toNat = 256 * page.toNat + n := by
  have hpage := page.isLt
  have hbase : (mkWord page 0x00#8).toNat = 256 * page.toNat := by
    unfold mkWord
    rw [BitVec.toNat_append, Nat.shiftLeft_eq, BitVec.toNat_ofNat, Nat.zero_mod, Nat.or_zero, Nat.mul_comm]
  rw [BitVec.toNat_add, hbase, toNat_address (by omega)]
  omega

/-- Only the first byte of a page can be the joypad register. -/
theorem oamSource_ne_joypad (page : Byte) {n : Nat} (h : 0 < n) (hn : n < 256) :
    mkWord page 0x00#8 + BitVec.ofNat 16 n ≠ 0xFF00#16 := by
  intro he
  have hnat := congrArg BitVec.toNat he
  rw [toNat_oamSource page hn, BitVec.toNat_ofNat] at hnat
  omega

/-- A source byte in `OAM` is copied to its own place. -/
theorem oamSource_eq_of_oam {page : Byte} {n j : Nat} (hn : n < 256)
    (h : region (mkWord page 0x00#8 + BitVec.ofNat 16 n) = .oam j) : j = n := by
  obtain ⟨hj, haddr⟩ := region_oam h
  rw [toNat_oamSource page hn] at haddr
  omega

@[simp] theorem oam_afterRead (a : Word) : (b.afterRead a).oam = b.oam :=
  ite_of oam (fun _ => rfl) fun _ => rfl

/-- `OAM` shows in the bytes of its own window only. -/
theorem peek_withOam {m : Memory} {a : Word} (h : ∀ j, region a = .oam j → m.read j = b.oam.read j) :
    ({ b with oam := m } : Bus).peek a = b.peek a := by
  unfold peek
  cases hr : region a with
  | oam j => exact h j hr
  | _ => rfl

section copy

variable (page : Byte)

/-- The copy so far changes nothing but `OAM`, the joypad request of its first read apart. -/
theorem oamCopy_frame (n : Nat) (hn : n < 255) :
    b.oamCopy page (n + 1) = { b.afterRead (mkWord page 0x00#8) with oam := (b.oamCopy page (n + 1)).oam } := by
  induction n with
  | zero =>
    unfold oamCopy
    rw [oamCopy, BitVec.add_zero]
  | succ n ih =>
    rw [oamCopy, afterRead_other _ (oamSource_ne_joypad page (by omega) (by omega)), ih (by omega)]

/-- The bytes not reached yet are the old ones. -/
theorem oamCopy_read_ge {n i : Nat} (h : n ≤ i) : (b.oamCopy page n).oam.read i = b.oam.read i := by
  induction n with
  | zero => rfl
  | succ n ih => exact (Memory.read_write_ne _ _ (by omega)).trans (ih (by omega))

/-- What the copy reads for byte `n` is what the bus reads there after the first read. -/
theorem oamCopy_peek {n : Nat} (hn : n < 160) :
    (b.oamCopy page n).peek (mkWord page 0x00#8 + BitVec.ofNat 16 n)
      = (b.afterRead (mkWord page 0x00#8)).peek (mkWord page 0x00#8 + BitVec.ofNat 16 n) := by
  cases n with
  | zero =>
    refine (b.peek_afterRead _ fun he => ?_).symm
    have hnat := congrArg BitVec.toNat he
    rw [toNat_oamSource page (by omega), BitVec.toNat_ofNat] at hnat
    omega
  | succ n =>
    rw [b.oamCopy_frame page n (by omega)]
    refine peek_withOam _ fun j hj => ?_
    rw [oamSource_eq_of_oam (by omega) hj, b.oamCopy_read_ge page (le_refl _), oam_afterRead]

/-- The bytes copied so far. -/
theorem oamCopy_read_lt {n i : Nat} (hn : n ≤ 160) (h : i < n) :
    (b.oamCopy page n).oam.read i = (b.afterRead (mkWord page 0x00#8)).peek (mkWord page 0x00#8 + BitVec.ofNat 16 i) := by
  induction n with
  | zero => omega
  | succ n ih =>
    rw [oamCopy]
    dsimp only
    by_cases hi : i = n
    · rw [hi, Memory.read_write_same, b.oamCopy_peek page (by omega)]
    · rw [Memory.read_write_ne _ _ hi, ih (by omega) (by omega)]

end copy

/-- A write to 0xFF46 stores the page and copies at once. -/
theorem write_dma (v : Byte) : b.write 0xFF46#16 v = (b.setIo Io.dma v).oamCopy v 160 :=
  b.write_ioOffset (o := 0x46) v (by decide)

/-! The VRAM DMA (R424, R425). -/

@[simp] theorem vramIndex_afterRead (a : Word) (i : Nat) : (b.afterRead a).vramIndex i = b.vramIndex i :=
  ite_of (fun c : Bus => c.vramIndex i) (fun _ => rfl) fun _ => rfl

/-- A stored byte reaches the video RAM, or is dropped. -/
theorem hdmaStore_eq (d : Word) (v : Byte) : b.hdmaStore d v =
    if 0x8000 ≤ d.toNat ∧ d.toNat ≤ 0x9FFF then { b with vram := b.vram.write (b.vramIndex (d.toNat - 0x8000)) v }
    else b := by
  have hnames := region_names d
  unfold hdmaStore
  cases hr : region d with
  | vram i =>
    rw [hr] at hnames
    obtain ⟨hi, haddr⟩ := hnames
    rw [if_pos (by omega), haddr, Nat.add_sub_cancel_left]
  | _ =>
    rw [hr] at hnames
    simp only [Region.names] at hnames
    rw [if_neg (by omega)]

theorem copyByte_eq (src dst : Word) (n : Nat) : copyByte src dst b n =
    (b.afterRead (src + BitVec.ofNat 16 n)).hdmaStore (dst + BitVec.ofNat 16 n) (b.peek (src + BitVec.ofNat 16 n)) := by
  rw [hdmaStore_eq, vramIndex_afterRead]
  rfl

/-- The model's recursion is the rule's loop. -/
theorem hdmaBytes_eq_foldl (src dst : Word) (k : Nat) : b.hdmaBytes src dst k = (List.range k).foldl (copyByte src dst) b := by
  induction k with
  | zero => rfl
  | succ k ih =>
    rw [List.range_succ, List.foldl_append, ← ih, List.foldl_cons, List.foldl_nil, copyByte_eq]
    rfl

/-- On the color variant a write to 0xFF55 is the control write. -/
theorem write_hdma5 (v : Byte) (hc : b.color = true) : b.write 0xFF55#16 v = b.writeHdma5 v := by
  refine (b.write_ioOffset (o := 0x55) v (by decide)).trans ?_
  rw [b.writeIo_color v hc (by decide)]
  rfl

/-- Bit 7 of the control byte, as a number. -/
theorem bitAt_seven_iff (v : Byte) : bitAt v 7 = true ↔ 128 ≤ v.toNat := by
  have := v.isLt
  rw [bitAt_seven_eq, decide_eq_true_eq]
  omega

theorem writeHdma5_cancel {v : Byte} (ha : b.hdmaActive = true) (hv : v.toNat < 128) :
    b.writeHdma5 v = { b.setIo Io.hdma5 v with hdmaActive := false } := by
  have hbit : bitAt v 7 = false := by rw [Bool.eq_false_iff, ne_eq, bitAt_seven_iff]; omega
  have hactive : (b.setIo Io.hdma5 v).hdmaActive = true := ha
  rw [writeHdma5, if_pos (by simp [hactive, hbit])]

theorem writeHdma5_copy {v : Byte} (ha : b.hdmaActive = false) (hv : v.toNat < 128) :
    b.writeHdma5 v =
      { (b.setIo Io.hdma5 v).hdmaCopy (16 * (v.toNat % 128 + 1)) with hdmaLen := 0, hdmaActive := false } := by
  have hbit : bitAt v 7 = false := by rw [Bool.eq_false_iff, ne_eq, bitAt_seven_iff]; omega
  have hactive : (b.setIo Io.hdma5 v).hdmaActive = false := ha
  rw [writeHdma5, if_neg (by simp [hactive]), if_neg (by simp [hbit])]

theorem writeHdma5_arm {v : Byte} (hv : 128 ≤ v.toNat) :
    b.writeHdma5 v = { b.setIo Io.hdma5 v with hdmaLen := v.toNat % 128 + 1, hdmaActive := true } := by
  have hbit : bitAt v 7 = true := (bitAt_seven_iff v).mpr hv
  rw [writeHdma5, if_neg (by simp [hbit]), if_pos hbit]

end Bus

end Sys2Proof.Machine

open Sys2Proof.Machine Sys2Proof.Claims

/-- Settles O48: the copy changes nothing but `OAM` (`Bus.oamCopy_frame`), and each byte is the bus's at its source address. -/
theorem oamDma : Obligations.OamDma := by
  unfold Obligations.OamDma
  intro b v
  dsimp only
  rw [b.write_dma v]
  exact ⟨(b.setIo 0x46 v).oamCopy_frame v 159 (by decide),
    fun i hi => (b.setIo 0x46 v).oamCopy_read_lt v (le_refl _) hi,
    fun i hi => (b.setIo 0x46 v).oamCopy_read_ge v hi⟩

/-- Settles O49: the copy is the rule's loop (`Bus.hdmaBytes_eq_foldl`); the control write goes by the armed copy and bit 7. -/
theorem vramDma : Obligations.VramDma := by
  unfold Obligations.VramDma
  refine ⟨fun b k => ?_, fun b v hc => ?_⟩
  · rw [← b.hdmaBytes_eq_foldl]
    rfl
  · dsimp only
    rw [b.write_hdma5 v hc]
    exact ⟨b.writeHdma5_cancel, b.writeHdma5_copy, b.writeHdma5_arm⟩
end

section
/-! The divider and the counter (60_exceptions.md R360 to R364): the `while` loops of the rules take off whole periods, one tick
each. -/

namespace Sys2Proof.Machine

open Sys2Proof.Claims

/-- With rounds enough, the loop ticks once per whole period and leaves the rest. -/
theorem whileLoop_eq {period : Nat} (hp : 0 < period) (tick : Bus → Bus) (n acc : Nat) (b : Bus) (h : acc < (n + 1) * period) :
    whileLoop period tick n acc b = (acc % period, tick^[acc / period] b) := by
  induction n generalizing acc b with
  | zero =>
    rw [zero_add, one_mul] at h
    rw [whileLoop, Nat.mod_eq_of_lt h, Nat.div_eq_of_lt h, Function.iterate_zero_apply]
  | succ n ih =>
    rw [whileLoop]
    split
    next hle =>
      rw [ih _ _ (by rw [Nat.succ_mul] at h; omega), ← Nat.mod_eq_sub_mod hle, Nat.div_eq_sub_div hp hle,
        Function.iterate_succ_apply]
    next hgt =>
      have hlt := not_le.mp hgt
      rw [Nat.mod_eq_of_lt hlt, Nat.div_eq_of_lt hlt, Function.iterate_zero_apply]

/-- The accumulator itself is rounds enough. -/
theorem whileLoop_self {period : Nat} (hp : 0 < period) (tick : Bus → Bus) (acc : Nat) (b : Bus) :
    whileLoop period tick acc acc b = (acc % period, tick^[acc / period] b) :=
  whileLoop_eq hp tick acc acc b (lt_of_lt_of_le acc.lt_succ_self (Nat.le_mul_of_pos_right _ hp))

namespace Bus

variable {b : Bus}

/-- One increment of `DIV` (R362). -/
def divTick (b : Bus) : Bus := b.setIo Io.div (b.ioAt Io.div + 1#8)

/-- Storing what a canonical I/O block holds already changes nothing. -/
theorem setIo_ioAt (h : b.io.wf = true) (o : Nat) : b.setIo o (b.ioAt o) = b := by
  have hio : b.io.write o (b.io.read o) = b.io := by
    refine Memory.ext_of_read _ _ (Memory.wf_write _ _ _ h) h fun a => ?_
    rw [Memory.read_write]
    split
    next ha => rw [ha]
    · rfl
  show { b with io := b.io.write o (b.io.read o) } = b
  rw [hio]

/-- The second of two stores at an offset is the one that counts. -/
theorem setIo_setIo (h : b.io.wf = true) (o : Nat) (v w : Byte) : (b.setIo o v).setIo o w = b.setIo o w := by
  have hio : (b.io.write o v).write o w = b.io.write o w := by
    refine Memory.ext_of_read _ _ (Memory.wf_write _ _ _ (Memory.wf_write _ _ _ h)) (Memory.wf_write _ _ _ h) fun a => ?_
    simp only [Memory.read_write]
    split <;> rfl
  show { b with io := (b.io.write o v).write o w } = { b with io := b.io.write o w }
  rw [hio]

/-- Ticking `DIV` one by one adds up. -/
theorem divTick_iterate (h : b.io.wf = true) (n : Nat) : divTick^[n] b = b.setIo Io.div (b.ioAt Io.div + BitVec.ofNat 8 n) := by
  induction n with
  | zero => rw [Function.iterate_zero_apply, BitVec.add_zero, setIo_ioAt h]
  | succ n ih =>
    rw [Function.iterate_succ_apply', ih, divTick, ioAt_setIo_same, setIo_setIo h, BitVec.add_assoc, ← BitVec.ofNat_add]

/-- R362 as its loop. -/
theorem dividerStep_eq_whileLoop (h : b.io.wf = true) (c : Nat) :
    b.dividerStep c = { (whileLoop 256 divTick (b.divAcc + c) (b.divAcc + c) b).2 with
      divAcc := (whileLoop 256 divTick (b.divAcc + c) (b.divAcc + c) b).1 } := by
  rw [whileLoop_self (by decide), divTick_iterate h]
  rfl

theorem timaTicks_eq_iterate (b : Bus) (n : Nat) : b.timaTicks n = timaTick^[n] b := by
  induction n with
  | zero => rfl
  | succ n ih => rw [timaTicks, ih, Function.iterate_succ_apply']

/-- The period of the statements is the model's (R363). -/
theorem timerPeriod_eq (b : Bus) : [1024, 16, 64, 256].getD ((b.ioAt Io.tac).toNat % 4) 0 = b.timerPeriod := by
  have hlt : (b.ioAt Io.tac).toNat % 4 < 4 := Nat.mod_lt _ (by decide)
  unfold timerPeriod
  generalize (b.ioAt Io.tac).toNat % 4 = n at hlt
  interval_cases n <;> rfl

/-- R363 as its loop, where the enable bit is set. -/
theorem counterStep_eq_whileLoop (b : Bus) (c : Nat) :
    b.counterStep c = if bitAt (b.ioAt Io.tac) 2 then
      { (whileLoop b.timerPeriod timaTick (b.timaAcc + c) (b.timaAcc + c) b).2 with
        timaAcc := (whileLoop b.timerPeriod timaTick (b.timaAcc + c) (b.timaAcc + c) b).1 }
      else b := by
  rw [whileLoop_self b.timerPeriod_pos, ← timaTicks_eq_iterate]
  rfl

end Bus

end Sys2Proof.Machine

open Sys2Proof.Machine Sys2Proof.Claims

/-- Settles O50: each of the two is the loop of its rule (`Bus.dividerStep_eq_whileLoop`, `Bus.counterStep_eq_whileLoop`), which
leaves a remainder below the period (`whileLoop_self`). -/
theorem timerLoops : Obligations.TimerLoops := by
  unfold Obligations.TimerLoops
  intro b c hwf
  rw [Bus.timerPeriod_eq b]
  refine ⟨rfl, ⟨Bus.dividerStep_eq_whileLoop hwf c, ?_⟩, b.counterStep_eq_whileLoop c, ?_⟩
  · rw [whileLoop_self (by decide)]
    exact Nat.mod_lt _ (by decide)
  · dsimp only
    rw [whileLoop_self b.timerPeriod_pos]
    exact Nat.mod_lt _ b.timerPeriod_pos
end

section
/-! The pixel pipeline (60_exceptions.md R380 to R388, R426): what a scanline boundary does to `STAT` and `IF` and leaves
alone, and the step in numbers. -/

namespace Sys2Proof.Machine

open Sys2Proof.Claims

/-- Bytes that agree from bit `k` on agree in every bit from there on. -/
theorem bitAt_eq_of_div_eq {x y : Byte} {k i : Nat} (h : x.toNat / 2 ^ k = y.toNat / 2 ^ k) (hi : k ≤ i) :
    bitAt x i = bitAt y i := by
  obtain ⟨j, rfl⟩ := Nat.exists_eq_add_of_le' hi
  unfold bitAt BitVec.getLsbD
  rw [← Nat.testBit_div_two_pow, ← Nat.testBit_div_two_pow, h]

/-- `v[1:0] <- m` in numbers. -/
theorem mask_or_mode_eq (v : Byte) {m : Byte} (hm : m.toNat < 4) :
    v &&& 0xFC#8 ||| m = BitVec.ofNat 8 (v.toNat / 4 * 4 + m.toNat) := by
  have hmask : ∀ w : Byte, (w &&& 0xFC#8).toNat = w.toNat / 4 * 4 := by decide
  rw [or_eq_ofNat_add 2 ⟨v.toNat / 4, by rw [hmask, mul_comm]; rfl⟩ hm, hmask]

theorem div_four_mask_or_mode (v : Byte) {m : Byte} (hm : m.toNat < 4) :
    (v &&& 0xFC#8 ||| m).toNat / 2 ^ 2 = v.toNat / 2 ^ 2 := by
  have hv := v.isLt
  rw [mask_or_mode_eq v hm, BitVec.toNat_ofNat]
  omega

/-- Two requests for one cause or another are one. -/
theorem ite_or_ite (m : Byte) (p q : Prop) [Decidable p] [Decidable q] :
    (if p then m else 0x00#8) ||| (if q then m else 0x00#8) = if p ∨ q then m else 0x00#8 := by
  by_cases hp : p <;> by_cases hq : q <;> simp [hp, hq]

theorem div_eight_withBit_two : ∀ v : Byte, (withBit v 2).toNat / 2 ^ 3 = v.toNat / 2 ^ 3 := by decide
theorem div_eight_withoutBit_two : ∀ v : Byte, (withoutBit v 2).toNat / 2 ^ 3 = v.toNat / 2 ^ 3 := by decide
theorem bitAt_withBit_two : ∀ v : Byte, bitAt (withBit v 2) 2 = true := by decide
theorem bitAt_withoutBit_two : ∀ v : Byte, bitAt (withoutBit v 2) 2 = false := by decide

namespace Bus

variable (b : Bus)

/-! One step of a boundary each, cell by cell of the I/O block. -/

theorem ioAt_request (i o : Nat) : (b.request i).ioAt o = if o = Io.ifl then withBit (b.ioAt Io.ifl) i else b.ioAt o :=
  b.ioAt_setIo _ _ _

@[simp] theorem statBit_request (i j : Nat) : (b.request i).statBit j = b.statBit j := by
  rw [statBit, ioAt_request, if_neg (by decide)]
  rfl

theorem ioAt_statRequest (i o : Nat) :
    (b.statRequest i).ioAt o = if o = Io.ifl then b.ioAt Io.ifl ||| (if b.statBit i then 0x02#8 else 0x00#8) else b.ioAt o := by
  unfold statRequest
  by_cases h : b.statBit i
  · rw [if_pos h, if_pos h, ioAt_request]
    rfl
  · rw [if_neg h, if_neg h, BitVec.or_zero]
    split
    next ho => rw [ho]
    · rfl

theorem ioAt_setMode (m : Byte) (o : Nat) :
    (b.setMode m).ioAt o = if o = Io.stat then b.ioAt Io.stat &&& 0xFC#8 ||| m else b.ioAt o := b.ioAt_setIo _ _ _

/-- The bits of `STAT` above the mode (R388) do not move with it. -/
theorem statBit_setMode {m : Byte} (hm : m.toNat < 4) {i : Nat} (hi : 2 ≤ i) : (b.setMode m).statBit i = b.statBit i := by
  rw [statBit, ioAt_setMode, if_pos rfl]
  exact bitAt_eq_of_div_eq (div_four_mask_or_mode _ hm) hi

/-- `STAT` after the compare (R382). -/
theorem stat_compareLy : b.compareLy.ioAt Io.stat =
    if b.ioAt Io.ly = b.ioAt Io.lyc then withBit (b.ioAt Io.stat) 2 else withoutBit (b.ioAt Io.stat) 2 := by
  unfold compareLy
  split
  · rw [ioAt_statRequest, if_neg (by decide), ioAt_setIo_same]
  · rw [ioAt_setIo_same]

theorem bitAt_two_compareLy : bitAt (b.compareLy.ioAt Io.stat) 2 = decide (b.ioAt Io.ly = b.ioAt Io.lyc) := by
  rw [stat_compareLy]
  split
  next h => rw [bitAt_withBit_two, decide_eq_true h]
  next h => rw [bitAt_withoutBit_two, decide_eq_false h]

theorem div_eight_compareLy : (b.compareLy.ioAt Io.stat).toNat / 2 ^ 3 = (b.ioAt Io.stat).toNat / 2 ^ 3 := by
  rw [stat_compareLy]
  split
  · exact div_eight_withBit_two _
  · exact div_eight_withoutBit_two _

/-- Its request (R382, R388). -/
theorem ifl_compareLy : b.compareLy.ioAt Io.ifl =
    b.ioAt Io.ifl ||| (if b.ioAt Io.ly = b.ioAt Io.lyc ∧ b.statBit 6 = true then 0x02#8 else 0x00#8) := by
  have hbit : (b.setIo Io.stat (withBit (b.ioAt Io.stat) 2)).statBit 6 = b.statBit 6 := by
    rw [statBit, ioAt_setIo_same]
    exact bitAt_eq_of_div_eq (div_eight_withBit_two _) (by decide)
  unfold compareLy
  by_cases h : b.ioAt Io.ly = b.ioAt Io.lyc
  · rw [if_pos h, ioAt_statRequest, if_pos rfl, hbit, ioAt_setIo_ne _ _ (by decide)]
    simp only [h, true_and]
  · rw [if_neg h, ioAt_setIo_ne _ _ (by decide), if_neg fun hc => h hc.1, BitVec.or_zero]

theorem ioAt_compareLy_other {o : Nat} (hifl : o ≠ Io.ifl) (hstat : o ≠ Io.stat) : b.compareLy.ioAt o = b.ioAt o := by
  unfold compareLy
  split
  · rw [ioAt_statRequest, if_neg hifl, ioAt_setIo_ne _ _ hstat]
  · rw [ioAt_setIo_ne _ _ hstat]

/-- Entering a line changes the mode only, of `STAT` (R383, R384). -/
theorem div_four_enterLine : (b.enterLine.ioAt Io.stat).toNat / 2 ^ 2 = (b.ioAt Io.stat).toNat / 2 ^ 2 := by
  unfold enterLine enterVblank enterOamScan
  split
  · rw [ioAt_statRequest, if_neg (by decide), ioAt_request, if_neg (by decide), ioAt_setMode, if_pos rfl]
    exact div_four_mask_or_mode _ (by decide)
  · split
    · rw [ioAt_statRequest, if_neg (by decide), ioAt_setMode, if_pos rfl]
      exact div_four_mask_or_mode _ (by decide)
    · rfl

/-- The requests of entering a line (R383, R384). -/
theorem ifl_enterLine : b.enterLine.ioAt Io.ifl = b.ioAt Io.ifl ||| (if b.lyNat = 144 then 0x01#8 else 0x00#8)
    ||| (if (b.lyNat = 144 ∧ b.statBit 4 = true) ∨ (b.lyNat < 144 ∧ b.statBit 5 = true) then 0x02#8 else 0x00#8) := by
  unfold enterLine
  by_cases h : b.lyNat = 144
  · have hbit : ((b.setMode 1#8).request 0).statBit 4 = b.statBit 4 := by
      rw [statBit_request, b.statBit_setMode (by decide) (by decide)]
    rw [if_pos h, enterVblank, ioAt_statRequest, if_pos rfl, ioAt_request, if_pos rfl, ioAt_setMode, if_neg (by decide), hbit]
    simp only [h, if_true, true_and, lt_irrefl, false_and, or_false]
    rfl
  · rw [if_neg h]
    by_cases h' : b.lyNat < 144
    · rw [if_pos h', enterOamScan, ioAt_statRequest, if_pos rfl, ioAt_setMode, if_neg (by decide),
        b.statBit_setMode (by decide) (by decide)]
      simp only [h, h', if_false, true_and, false_and, false_or, BitVec.or_zero]
    · rw [if_neg h']
      simp only [h, h', if_false, false_and, or_false, BitVec.or_zero]

theorem ioAt_enterLine_other {o : Nat} (hifl : o ≠ Io.ifl) (hstat : o ≠ Io.stat) : b.enterLine.ioAt o = b.ioAt o := by
  unfold enterLine enterVblank enterOamScan
  split
  · rw [ioAt_statRequest, if_neg hifl, ioAt_request, if_neg hifl, ioAt_setMode, if_neg hstat]
  · split
    · rw [ioAt_statRequest, if_neg hifl, ioAt_setMode, if_neg hstat]
    · rfl

/-! What lies outside the I/O block and `dot`. -/

/-- The bus with its I/O block and `dot` blanked out. -/
def offIo (b : Bus) : Bus := { b with io := [], dot := 0 }

theorem eq_of_offIo_eq {b t : Bus} (h : t.offIo = b.offIo) : { t with io := b.io, dot := b.dot } = b :=
  congrArg (fun c : Bus => { c with io := b.io, dot := b.dot }) h

@[simp] theorem offIo_statRequest (i : Nat) : (b.statRequest i).offIo = b.offIo :=
  ite_of offIo (fun _ => rfl) fun _ => rfl

theorem offIo_compareLy : b.compareLy.offIo = b.offIo :=
  ite_of offIo (fun _ => offIo_statRequest _ 6) fun _ => rfl

theorem offIo_enterLine : b.enterLine.offIo = b.offIo :=
  ite_of offIo (fun _ => offIo_statRequest _ 4) fun _ => ite_of offIo (fun _ => offIo_statRequest _ 5) fun _ => rfl

/-! The boundary (R381). -/

theorem boundary_of_lt (h : b.dot < 456) : b.boundary = (b, false) := if_neg (not_le.mpr h)

theorem boundary_of_le (h : 456 ≤ b.dot) :
    b.boundary = (b.nextLine.compareLy.enterLine, decide (b.nextLine.compareLy.lyNat = 144)) := if_pos h

theorem ioAt_nextLine (o : Nat) :
    b.nextLine.ioAt o = if o = Io.ly then BitVec.ofNat 8 ((b.lyNat + 1) % 154) else b.ioAt o := by
  unfold nextLine
  exact Memory.read_write _ _ _ _

theorem lyNat_nextLine : b.nextLine.compareLy.lyNat = (b.lyNat + 1) % 154 :=
  congrArg Prod.fst ((line_compareLy b.nextLine).trans (line_nextLine b))

/-- The compare of the new line, in numbers (R382). -/
theorem ly_eq_lyc_iff : b.nextLine.ioAt Io.ly = b.nextLine.ioAt Io.lyc ↔ (b.lyNat + 1) % 154 = (b.ioAt Io.lyc).toNat := by
  have hlt : (b.lyNat + 1) % 154 < 256 := lt_trans (Nat.mod_lt _ (by decide)) (by decide)
  rw [ioAt_nextLine, ioAt_nextLine, if_pos rfl, if_neg (by decide), ← BitVec.toNat_inj, BitVec.toNat_ofNat,
    Nat.mod_eq_of_lt hlt]

/-- The enable bits of `STAT` are those from before the compare. -/
theorem statBit_compareLy {i : Nat} (hi : 3 ≤ i) : b.nextLine.compareLy.statBit i = b.statBit i := by
  have hstat : b.nextLine.ioAt Io.stat = b.ioAt Io.stat := b.ioAt_nextLine Io.stat
  rw [statBit, bitAt_eq_of_div_eq b.nextLine.div_eight_compareLy hi, hstat]
  rfl

section crossing

variable {b} (h : 456 ≤ b.dot)
include h

theorem bitAt_two_boundary :
    bitAt (b.boundary.1.ioAt Io.stat) 2 = decide ((b.lyNat + 1) % 154 = (b.ioAt Io.lyc).toNat) := by
  rw [b.boundary_of_le h, bitAt_eq_of_div_eq (div_four_enterLine _) (le_refl 2), bitAt_two_compareLy, decide_eq_decide]
  exact b.ly_eq_lyc_iff

theorem div_eight_boundary : (b.boundary.1.ioAt Io.stat).toNat / 8 = (b.ioAt Io.stat).toNat / 8 := by
  have hnew : (b.boundary.1.ioAt Io.stat).toNat / 2 ^ 2 = (b.nextLine.compareLy.ioAt Io.stat).toNat / 2 ^ 2 := by
    rw [b.boundary_of_le h]
    exact div_four_enterLine _
  have hold : (b.nextLine.compareLy.ioAt Io.stat).toNat / 2 ^ 3 = (b.ioAt Io.stat).toNat / 2 ^ 3 := by
    rw [div_eight_compareLy, ioAt_nextLine, if_neg (by decide)]
  omega

theorem ioAt_boundary_other {o : Nat} (hifl : o ≠ Io.ifl) (hstat : o ≠ Io.stat) (hly : o ≠ Io.ly) :
    b.boundary.1.ioAt o = b.ioAt o := by
  rw [b.boundary_of_le h, ioAt_enterLine_other _ hifl hstat, ioAt_compareLy_other _ hifl hstat, ioAt_nextLine, if_neg hly]

theorem ly_boundary : b.boundary.1.ioAt Io.ly = BitVec.ofNat 8 ((b.lyNat + 1) % 154) := by
  rw [b.boundary_of_le h, ioAt_enterLine_other _ (by decide) (by decide), ioAt_compareLy_other _ (by decide) (by decide),
    ioAt_nextLine, if_pos rfl]

/-- All requests of a boundary: the compare's and those of entering the line. -/
theorem ifl_boundary : b.boundary.1.ioAt Io.ifl =
    b.ioAt Io.ifl ||| (if (b.lyNat + 1) % 154 = 144 then 0x01#8 else 0x00#8)
      ||| (if ((b.lyNat + 1) % 154 = (b.ioAt Io.lyc).toNat ∧ b.statBit 6 = true)
            ∨ ((b.lyNat + 1) % 154 = 144 ∧ b.statBit 4 = true) ∨ ((b.lyNat + 1) % 154 < 144 ∧ b.statBit 5 = true)
          then 0x02#8 else 0x00#8) := by
  have hstat : b.nextLine.statBit 6 = b.statBit 6 := by
    rw [statBit, ioAt_nextLine, if_neg (by decide)]
    rfl
  have hswap (v x y z : Byte) : v ||| x ||| y ||| z = v ||| y ||| (x ||| z) := by
    rw [BitVec.or_assoc v, BitVec.or_comm x, ← BitVec.or_assoc v, BitVec.or_assoc (v ||| y)]
  rw [b.boundary_of_le h, ifl_enterLine, ifl_compareLy, b.lyNat_nextLine, b.statBit_compareLy (by decide),
    b.statBit_compareLy (by decide), hstat, hswap, ite_or_ite]
  simp only [b.ly_eq_lyc_iff, b.ioAt_nextLine Io.ifl, show Io.ifl ≠ Io.ly by decide, if_false]

theorem offIo_boundary : b.boundary.1.offIo = b.offIo := by
  rw [b.boundary_of_le h, offIo_enterLine, offIo_compareLy]
  rfl

theorem boundary_snd : b.boundary.2 = decide ((b.lyNat + 1) % 154 = 144) := by
  rw [b.boundary_of_le h, b.lyNat_nextLine]

end crossing

/-! The step (R380, R385, R386, R426). -/

theorem setMode_eq {m : Byte} (hm : m.toNat < 4) :
    b.setMode m = b.setIo Io.stat (BitVec.ofNat 8 ((b.ioAt Io.stat).toNat / 4 * 4 + m.toNat)) := by
  rw [setMode, mask_or_mode_eq _ hm]

/-- A VRAM-DMA copy moves the unit's addresses only (R425). -/
theorem hdmaLen_hdmaCopy (k : Nat) : (b.hdmaCopy k).hdmaLen = b.hdmaLen :=
  congrArg Prod.fst (b.unit_hdmaBytes b.hdmaSrc b.hdmaDst k)

theorem hblankChunk_eq : b.hblankChunk = if b.color = true ∧ b.hdmaActive = true then
    { b.hdmaCopy 16 with hdmaLen := b.hdmaLen - 1, hdmaActive := decide (b.hdmaLen - 1 ≠ 0) } else b := by
  unfold hblankChunk
  simp only [Bool.and_eq_true, hdmaLen_hdmaCopy]

theorem ppuStep_off (p : Params) (c : Nat) (h : lcdc b 7 = false) : ppuStep p b c = (b, false) := if_neg (Bool.eq_false_iff.mp h)

theorem ppuStep_on (p : Params) (c : Nat) (h : lcdc b 7 = true) :
    ppuStep p b c = ((startDrawing p ({ b with dot := b.dot + c } : Bus).boundary.1).startHblank,
      ({ b with dot := b.dot + c } : Bus).boundary.2) := if_pos h

/-- The change to drawing, in numbers (R385). -/
theorem startDrawing_eq (p : Params) : startDrawing p b =
    if (b.ioAt 0x44).toNat < 144 ∧ (b.ioAt 0x41).toNat % 4 = 2 ∧ 80 ≤ b.dot then
      renderScanline p (b.setIo 0x41 (BitVec.ofNat 8 ((b.ioAt 0x41).toNat / 4 * 4 + 3))) (b.ioAt 0x44).toNat
    else b := by
  rw [startDrawing, b.setMode_eq (m := 3#8) (by decide)]
  rfl

/-- Mode 0 with its request (R386), in numbers: the enable bit is the one from before. -/
theorem statRequest_setMode_zero : (b.setMode 0#8).statRequest 3 =
    let b' := b.setIo 0x41 (BitVec.ofNat 8 ((b.ioAt 0x41).toNat / 4 * 4))
    if (b.ioAt 0x41).getLsbD 3 then b'.setIo 0x0F (b'.ioAt 0x0F ||| 0x02#8) else b' := by
  rw [statRequest, b.statBit_setMode (by decide) (by decide), b.setMode_eq (by decide)]
  rfl

end Bus

end Sys2Proof.Machine

open Sys2Proof.Machine Sys2Proof.Claims

/-- Settles O51: the new line is the next one, its mode is `Bus.line_boundary`'s, and each cell of the I/O block has
its own lemma. -/
theorem scanlineBoundary : Obligations.ScanlineBoundary := by
  unfold Obligations.ScanlineBoundary
  intro b
  refine ⟨b.boundary_of_lt, fun h => ?_⟩
  have hline := b.line_boundary
  rw [if_pos h] at hline
  simp only [Bus.line, Prod.mk.injEq] at hline
  obtain ⟨-, hmode, hdot⟩ := hline
  exact ⟨Bus.eq_of_offIo_eq (Bus.offIo_boundary h), hdot, Bus.ly_boundary h, Bus.bitAt_two_boundary h, Bus.div_eight_boundary h,
    hmode, Bus.ifl_boundary h, fun _ hifl hstat hly => Bus.ioAt_boundary_other h hifl hstat hly, Bus.boundary_snd h⟩

/-- Settles O52: the step is its three parts (`Bus.ppuStep_on`), each of them in numbers. -/
theorem pixelPipelineStep : Obligations.PixelPipelineStep := by
  unfold Obligations.PixelPipelineStep
  intro p b c
  refine ⟨b.ppuStep_off p c, fun h => ?_⟩
  intro r b1 b2 b3 b4 b5
  have hdrawing : Bus.startDrawing p b1 = b2 := b1.startDrawing_eq p
  have hrequest : (b2.setMode 0#8).statRequest 3 = b4 := b2.statRequest_setMode_zero
  have hchunk : b4.hblankChunk = b5 := b4.hblankChunk_eq
  rw [b.ppuStep_on p c h, hdrawing, Bus.startHblank, hrequest, hchunk]
  rfl
end

section
/-! Rendering a line (60_exceptions.md R399 to R408): the bytes of a pixel, the shades of the background and the window in numbers,
and the sprites by priority. -/

namespace Sys2Proof.Machine

open Sys2Proof.Claims

/-! The four bytes of a column (R399, R406). -/

/-- Where the pieces of a flattened list are of one length, a place in it is a piece and a place in the piece. -/
theorem getD_flatMap_of_length {α β : Type} {f : α → List β} {n : Nat} (hf : ∀ a, (f a).length = n) (d : β) {k : Nat}
    (hk : k < n) {l : List α} {i : Nat} (hi : i < l.length) : (l.flatMap f).getD (n * i + k) d = (f l[i]).getD k d := by
  induction l generalizing i with
  | nil => simp at hi
  | cons a l ih =>
    rw [List.flatMap_cons]
    cases i with
    | zero =>
      rw [Nat.mul_zero, Nat.zero_add, List.getD_append _ _ _ _ (by rw [hf]; exact hk)]
      rfl
    | succ i =>
      have hle : (f a).length ≤ n * (i + 1) + k := by rw [hf, Nat.mul_succ]; omega
      have hsub : n * (i + 1) + k - (f a).length = n * i + k := by rw [hf, Nat.mul_succ]; omega
      rw [List.getD_append_right _ _ _ _ hle, hsub, ih (by simpa using hi)]
      rfl

theorem rgbaBytes_getD (p : Params) (sh : Shade) (d : Byte) {k : Nat} (hk : k < 4) :
    (Bus.rgbaBytes (Bus.shadeRgba p sh)).getD k d = shadeByte p sh.toNat k := by
  have hsh : sh = 0#2 ∨ sh = 1#2 ∨ sh = 2#2 ∨ sh = 3#2 := by revert sh; decide
  rcases hsh with rfl | rfl | rfl | rfl <;> interval_cases k <;> rfl

section line

variable {p : Params} {b : Bus} {ly x : Nat}

/-- The shade of a column after the line is rendered (R405). -/
def columnShade (p : Params) (b : Bus) (ly x : Nat) : Shade :=
  b.pixelShade ly x (Bus.bgShade p b ly x) (Bus.priorityOrder (Bus.selected p b ly))

theorem lineBytes_getD (hx : x < 160) {k : Nat} (hk : k < 4) :
    (Bus.lineBytes p b ly).getD (4 * x + k) Memory.blank = shadeByte p (columnShade p b ly x).toNat k := by
  have hlen : x < (Bus.lineShades p b ly).length := by simpa [Bus.lineShades] using hx
  rw [Bus.lineBytes, getD_flatMap_of_length (n := 4) (fun _ => rfl) _ hk hlen, rgbaBytes_getD p _ _ hk]
  simp only [Bus.lineShades, List.getElem_map, List.getElem_range]
  rfl

/-- A pixel shows its column's shade. -/
theorem shows_of_columnShade (hx : x < 160) {sh : Nat} (h : (columnShade p b ly x).toNat = sh) : Shows p b ly x sh := by
  intro k hk
  rw [Bus.fbByte_renderScanline, if_pos (by omega), show ((ly * 160 + x) * 4 + k) % 640 = 4 * x + k by omega,
    lineBytes_getD hx hk, h]

end line

/-! The background and the window (R400 to R402). -/

theorem bit_lt (v : Byte) (i : Nat) : bit v i < 2 := Nat.mod_lt _ (by decide)

theorem toNat_ofBool_bitAt (v : Byte) (i : Nat) : (BitVec.ofBool (bitAt v i)).toNat = bit v i := by
  have hlt := bit_lt v i
  rw [bitAt_eq_decide, BitVec.toNat_ofBool]
  by_cases h : bit v i = 1
  · rw [decide_eq_true h, h]; rfl
  · rw [decide_eq_false h, show bit v i = 0 by omega]; rfl

theorem toNat_planeIndex (lo hi : Byte) (i : Nat) : (planeIndex lo hi i).toNat = 2 * bit hi i + bit lo i := by
  rw [planeIndex, BitVec.toNat_append, ← Nat.shiftLeft_add_eq_or_of_lt (BitVec.isLt _), toNat_ofBool_bitAt, toNat_ofBool_bitAt,
    Nat.shiftLeft_eq, mul_comm]

theorem toNat_paletteShade (pal : Byte) (ci : Shade) : (paletteShade pal ci).toNat = shadeOf pal ci.toNat := by
  rw [paletteShade, BitVec.toNat_setWidth, toNat_shiftRight_byte, pow_mul]
  rfl

/-- The two tile areas (R401): in the alternate one tiles 128 to 255 lie below 0x1000. -/
theorem tileBase_eq (tid : Byte) (unsignedArea : Bool) :
    tileBase tid unsignedArea = if unsignedArea then 16 * tid.toNat
      else if tid.toNat < 128 then 0x1000 + 16 * tid.toNat else 0x1000 + 16 * tid.toNat - 16 * 256 := by
  have hlt := tid.isLt
  unfold tileBase
  split
  · rw [mul_comm]
  · rw [BitVec.toInt_eq_toNat_cond]
    split_ifs <;> omega

section layers

variable (p : Params) (b : Bus) (ly x : Nat)

theorem toNat_tilePixel (tid : Byte) (row i : Nat) :
    (b.tilePixel tid row i (b.lcdcBit 4)).toNat = colour b (tileRow b tid row) i := by
  have hbase : tileBase tid (b.lcdcBit 4) + 2 * row = tileRow b tid row := by
    rw [tileBase_eq, Nat.add_comm]
    rfl
  rw [Bus.tilePixel, toNat_planeIndex, hbase]
  rfl

theorem toNat_mapPixel (map px py : Nat) :
    (paletteShade (b.ioAt Io.bgp) (b.mapPixel map px py)).toNat = mapShade b map px py := by
  rw [toNat_paletteShade, Bus.mapPixel, toNat_tilePixel]
  rfl

theorem toNat_backgroundShade : (b.backgroundShade ly x).toNat = background b ly x := by
  unfold Bus.backgroundShade background
  rw [apply_ite BitVec.toNat, toNat_mapPixel]
  rfl

theorem toNat_windowShade : (b.windowShade ly x).toNat =
    mapShade b (if lcdc b 6 then 0x1C00 else 0x1800) (x + 7 - (b.ioAt 0x4B).toNat) (ly - (b.ioAt 0x4A).toNat) :=
  toNat_mapPixel b _ _ _

variable {p}

theorem windowCovers_iff (hp : p.layersEnabled = true) : Bus.windowCovers p b ly x = true ↔
    lcdc b 0 = true ∧ lcdc b 5 = true ∧ (b.ioAt 0x4A).toNat ≤ ly ∧ (b.ioAt 0x4B).toNat ≤ x + 7 := by
  simp only [Bus.windowCovers, hp, Bool.true_and, Bool.and_eq_true, decide_eq_true_eq, and_assoc]
  rfl

/-- The shade under the sprites, in numbers (R402). -/
theorem toNat_bgShade (hp : p.layersEnabled = true) : (Bus.bgShade p b ly x).toNat = underSprites b ly x := by
  unfold Bus.bgShade underSprites
  simp only [windowCovers_iff b ly x hp]
  rw [apply_ite BitVec.toNat, toNat_windowShade, toNat_backgroundShade]

/-- With `LAYERS_ENABLED` off the window covers nothing and no sprite is kept (R408). -/
theorem columnShade_of_layers_off (hp : p.layersEnabled = false) : columnShade p b ly x = b.backgroundShade ly x := by
  have hcovers : Bus.windowCovers p b ly x = false := by simp [Bus.windowCovers, hp]
  have hselected : Bus.selected p b ly = [] := by simp [Bus.selected, hp]
  rw [columnShade, Bus.bgShade, hcovers, hselected]
  rfl

end layers

/-! The sprites in priority order (R403, R404). -/

theorem spriteBefore_iff (s t : Sprite) : Bus.spriteBefore s t = true ↔
    s.x.toNat < t.x.toNat ∨ (s.x.toNat = t.x.toNat ∧ s.index < t.index) := by
  simp only [Bus.spriteBefore, Bool.or_eq_true, Bool.and_eq_true, decide_eq_true_eq, BitVec.toNat_inj]

/-- `s` may stand in front of `t`. -/
def NotAfter (s t : Sprite) : Prop := ¬ Bus.spriteBefore t s = true

theorem notAfter_iff (s t : Sprite) :
    NotAfter s t ↔ s.x.toNat < t.x.toNat ∨ (s.x.toNat = t.x.toNat ∧ s.index ≤ t.index) := by
  rw [NotAfter, spriteBefore_iff]
  omega

theorem NotAfter.refl (s : Sprite) : NotAfter s s := (notAfter_iff s s).mpr (.inr ⟨rfl, le_refl _⟩)

theorem NotAfter.trans {s t u : Sprite} (h : NotAfter s t) (g : NotAfter t u) : NotAfter s u := by
  rw [notAfter_iff] at *
  omega

theorem notAfter_of_before {s t : Sprite} (h : Bus.spriteBefore s t = true) : NotAfter s t := by
  rw [notAfter_iff]
  rw [spriteBefore_iff] at h
  omega

theorem mem_insertSprite (s u : Sprite) (l : List Sprite) : u ∈ Bus.insertSprite s l ↔ u = s ∨ u ∈ l := by
  induction l with
  | nil => simp [Bus.insertSprite]
  | cons t ts ih =>
    unfold Bus.insertSprite
    split
    · exact List.mem_cons
    · rw [List.mem_cons, ih, List.mem_cons]
      tauto

theorem mem_priorityOrder (u : Sprite) (l : List Sprite) : u ∈ Bus.priorityOrder l ↔ u ∈ l := by
  induction l with
  | nil => rfl
  | cons s ts ih => rw [Bus.priorityOrder, mem_insertSprite, ih, List.mem_cons]

theorem pairwise_insertSprite (s : Sprite) {l : List Sprite} (h : l.Pairwise NotAfter) :
    (Bus.insertSprite s l).Pairwise NotAfter := by
  induction l with
  | nil => exact List.pairwise_singleton _ _
  | cons t ts ih =>
    obtain ⟨hfirst, hrest⟩ := List.pairwise_cons.mp h
    unfold Bus.insertSprite
    split
    next hbefore =>
      refine List.pairwise_cons.mpr ⟨fun u hu => ?_, h⟩
      have hst := notAfter_of_before hbefore
      rcases List.mem_cons.mp hu with rfl | hu
      · exact hst
      · exact hst.trans (hfirst u hu)
    next hbefore =>
      refine List.pairwise_cons.mpr ⟨fun u hu => ?_, ih hrest⟩
      rcases (mem_insertSprite s u ts).mp hu with rfl | hu
      · exact hbefore
      · exact hfirst u hu

theorem pairwise_priorityOrder (l : List Sprite) : (Bus.priorityOrder l).Pairwise NotAfter := by
  induction l with
  | nil => exact List.Pairwise.nil
  | cons s ts ih => exact pairwise_insertSprite s ih

/-! The pixel (R405). -/

section pixel

variable {b : Bus} {ly x : Nat} {bg : Shade}

theorem pixelShade_of_none {l : List Sprite} (h : ∀ s ∈ l, b.spriteShade ly x bg s = none) : b.pixelShade ly x bg l = bg := by
  induction l with
  | nil => rfl
  | cons s ts ih =>
    obtain ⟨hs, hts⟩ := List.forall_mem_cons.mp h
    rw [Bus.pixelShade, hs]
    exact ih hts

/-- Of entries in priority order the first that shows is not after any other that shows. -/
theorem pixelShade_of_some {l : List Sprite} (hl : l.Pairwise NotAfter) (h : ∃ s ∈ l, b.spriteShade ly x bg s ≠ none) :
    ∃ s ∈ l, b.spriteShade ly x bg s = some (b.pixelShade ly x bg l)
      ∧ ∀ t ∈ l, b.spriteShade ly x bg t ≠ none → NotAfter s t := by
  induction l with
  | nil => simp at h
  | cons s ts ih =>
    obtain ⟨hfirst, hrest⟩ := List.pairwise_cons.mp hl
    rw [Bus.pixelShade]
    cases hs : b.spriteShade ly x bg s with
    | some sh =>
      refine ⟨s, List.mem_cons_self, hs, fun t ht _ => ?_⟩
      rcases List.mem_cons.mp ht with rfl | ht
      · exact NotAfter.refl t
      · exact hfirst t ht
    | none =>
      obtain ⟨u, hu, hshow⟩ := h
      have hne : u ≠ s := fun e => hshow (e ▸ hs)
      obtain ⟨v, hv, hsome, hleast⟩ := ih hrest ⟨u, (List.mem_cons.mp hu).resolve_left hne, hshow⟩
      refine ⟨v, List.mem_cons_of_mem s hv, hsome, fun t ht hshow' => ?_⟩
      exact hleast t ((List.mem_cons.mp ht).resolve_left fun e => hshow' (e ▸ hs)) hshow'

end pixel

/-! A sprite at a column, in numbers (R405). -/

section sprite

variable {b : Bus} {ly x i : Nat}

theorem toNat_clear_lowBit : ∀ v : Byte, (v &&& 0xFE#8).toNat = v.toNat / 2 * 2 := by decide

theorem spriteIndex_of_reaches (h : spriteX b i ≤ x + 8 ∧ x < spriteX b i) :
    ∃ ci, b.spriteIndex ly x (b.spriteAt i) = some ci ∧ ci.toNat = spriteColour b ly x i := by
  refine ⟨_, if_pos h, ?_⟩
  rw [toNat_planeIndex]
  unfold spriteColour colour
  simp only [bitAt_eq_decide, decide_eq_true_eq, apply_ite BitVec.toNat, toNat_clear_lowBit, mul_comm 16]
  rfl

theorem spriteIndex_of_not_reaches (h : ¬(spriteX b i ≤ x + 8 ∧ x < spriteX b i)) :
    b.spriteIndex ly x (b.spriteAt i) = none := if_neg h

variable {bg : Shade} (hbg : bg.toNat = underSprites b ly x)
include hbg

/-- The priority bit hides a sprite behind a shade other than 0. -/
theorem hidden_iff : (bitAt (b.spriteAt i).attr 7 && decide (bg ≠ 0#2)) = true ↔
    bit (spriteAttr b i) 7 = 1 ∧ underSprites b ly x ≠ 0 := by
  rw [Bool.and_eq_true, bitAt_eq_decide, decide_eq_true_eq, decide_eq_true_eq, ← hbg, ← BitVec.toNat_ne_iff_ne]
  rfl

theorem spriteShade_of_visible (h : visible b ly x i) :
    ∃ sh, b.spriteShade ly x bg (b.spriteAt i) = some sh ∧ sh.toNat = Claims.spriteShade b ly x i := by
  obtain ⟨hleft, hright, hcolour, hhidden⟩ := h
  obtain ⟨ci, hindex, hci⟩ := spriteIndex_of_reaches ⟨hleft, hright⟩
  have hne : ci ≠ 0#2 := fun e => hcolour (by rw [← hci, e]; rfl)
  refine ⟨paletteShade (if bitAt (b.spriteAt i).attr 4 then b.ioAt Io.obp1 else b.ioAt Io.obp0) ci, ?_, ?_⟩
  · rw [Bus.spriteShade, hindex]
    dsimp only
    rw [if_neg hne, if_neg (mt (hidden_iff hbg).mp hhidden)]
  · rw [toNat_paletteShade, hci]
    simp only [bitAt_eq_decide, decide_eq_true_eq]
    rfl

theorem spriteShade_of_not_visible (h : ¬ visible b ly x i) : b.spriteShade ly x bg (b.spriteAt i) = none := by
  rw [Bus.spriteShade]
  by_cases hreach : spriteX b i ≤ x + 8 ∧ x < spriteX b i
  · obtain ⟨ci, hindex, hci⟩ := spriteIndex_of_reaches hreach
    rw [hindex]
    dsimp only
    by_cases hzero : ci = 0#2
    · rw [if_pos hzero]
    · have hcolour : spriteColour b ly x i ≠ 0 := by
        rw [← hci]
        exact fun e => hzero (BitVec.eq_of_toNat_eq e)
      rw [if_neg hzero, if_pos ((hidden_iff hbg).mpr ?_)]
      by_contra hhidden
      exact h ⟨hreach.1, hreach.2, hcolour, hhidden⟩
  · rw [spriteIndex_of_not_reaches hreach]

theorem spriteShade_ne_none_iff : b.spriteShade ly x bg (b.spriteAt i) ≠ none ↔ visible b ly x i := by
  refine ⟨fun h => ?_, fun h => ?_⟩
  · by_contra hv
    exact h (spriteShade_of_not_visible hbg hv)
  · obtain ⟨sh, hsh, -⟩ := spriteShade_of_visible hbg h
    rw [hsh]
    exact Option.some_ne_none sh

end sprite

/-! A column of a line with its sprites (R403 to R405). -/

section column

variable {p : Params} {b : Bus} {ly x : Nat} (hp : p.layersEnabled = true)
include hp

theorem selected_of_sprites_off (h : lcdc b 1 = false) : Bus.selected p b ly = [] := by
  rw [Bus.selected, if_neg]
  simp [hp, show b.lcdcBit 1 = false from h]

/-- The kept entries are those of the kept indices. -/
theorem selected_of_sprites_on (h : lcdc b 1 = true) : Bus.selected p b ly = (kept b ly).map b.spriteAt := by
  rw [Bus.selected, if_pos (by simp [hp, show b.lcdcBit 1 = true from h]), List.filter_map, ← List.map_take, kept]
  congr 3
  funext i
  exact (Bool.decide_and _ _).symm

theorem mem_sprites_iff (h : lcdc b 1 = true) (s : Sprite) :
    s ∈ Bus.priorityOrder (Bus.selected p b ly) ↔ ∃ i ∈ kept b ly, b.spriteAt i = s := by
  rw [mem_priorityOrder, selected_of_sprites_on hp h, List.mem_map]

theorem columnShade_of_sprites_off (h : lcdc b 1 = false) : (columnShade p b ly x).toNat = underSprites b ly x := by
  rw [columnShade, selected_of_sprites_off hp h]
  exact toNat_bgShade b ly x hp

theorem columnShade_of_none_visible (h : lcdc b 1 = true) (hnone : ∀ i ∈ kept b ly, ¬ visible b ly x i) :
    (columnShade p b ly x).toNat = underSprites b ly x := by
  have hbg := toNat_bgShade b ly x hp
  rw [columnShade, pixelShade_of_none, hbg]
  intro s hs
  obtain ⟨i, hi, rfl⟩ := (mem_sprites_iff hp h s).mp hs
  exact spriteShade_of_not_visible hbg (hnone i hi)

/-- The first in priority order is the visible sprite with the lowest `(X, i)`. -/
theorem columnShade_of_visible (h : lcdc b 1 = true) {i : Nat} (hi : i ∈ kept b ly) (hvis : visible b ly x i)
    (hleast : ∀ j ∈ kept b ly, visible b ly x j → spriteX b i < spriteX b j ∨ (spriteX b i = spriteX b j ∧ i ≤ j)) :
    (columnShade p b ly x).toNat = Claims.spriteShade b ly x i := by
  have hbg := toNat_bgShade b ly x hp
  have hmem : b.spriteAt i ∈ Bus.priorityOrder (Bus.selected p b ly) := (mem_sprites_iff hp h _).mpr ⟨i, hi, rfl⟩
  have hshown := (spriteShade_ne_none_iff hbg).mpr hvis
  obtain ⟨s, hs, hsome, hfirst⟩ := pixelShade_of_some (pairwise_priorityOrder _) ⟨_, hmem, hshown⟩
  obtain ⟨j, hj, rfl⟩ := (mem_sprites_iff hp h s).mp hs
  have hvis' : visible b ly x j := (spriteShade_ne_none_iff hbg).mp (by rw [hsome]; exact Option.some_ne_none _)
  have hij : j = i := by
    have hle : spriteX b j < spriteX b i ∨ (spriteX b j = spriteX b i ∧ j ≤ i) :=
      (notAfter_iff _ _).mp (hfirst _ hmem hshown)
    have hge := hleast j hj hvis'
    omega
  subst hij
  obtain ⟨sh, hsh, hnat⟩ := spriteShade_of_visible hbg hvis
  rw [columnShade, ← Option.some.inj (hsh.symm.trans hsome), hnat]

end column

end Sys2Proof.Machine

open Sys2Proof.Machine Sys2Proof.Claims

/-- Settles O53: the column's shade is the background's, and rendering replaces one line of the framebuffer
(`Bus.fbByte_renderScanline`). -/
theorem backgroundPixels : Obligations.BackgroundPixels := by
  unfold Obligations.BackgroundPixels
  intro p b ly x hp _ hx
  refine ⟨shows_of_columnShade hx ?_, rfl, fun i hi => ?_⟩
  · rw [columnShade_of_layers_off b ly x hp, toNat_backgroundShade]
  · rw [Bus.fbByte_renderScanline, if_neg hi]

/-- Settles O54: one lemma per case of the column's shade. -/
theorem windowAndSpritePixels : Obligations.WindowAndSpritePixels := by
  unfold Obligations.WindowAndSpritePixels
  intro p b ly x hp _ hx
  exact ⟨fun h => shows_of_columnShade hx (columnShade_of_sprites_off hp h),
    fun h hnone => shows_of_columnShade hx (columnShade_of_none_visible hp h hnone),
    fun h i hi hvis hleast => shows_of_columnShade hx (columnShade_of_visible hp h hi hvis hleast)⟩
end

section
/-! Reset (70_reset_and_hazards.md R450, R451), and the host's `run_frame()` (R463, R464): the chain of steps that the loop takes,
and what a chain of steps costs. -/

namespace Sys2Proof.Machine

open Sys2Proof.Claims

/-- R70: the cells of the I/O block after a reset with the default `RESET_IO`. -/
theorem read_resetIo (o : Nat) : Memory.read Config.resetIo o =
    if o = 0x40 then 0x91#8 else if o = 0x41 then 0x06#8 else if o = 0x47 then 0xFC#8
    else if o = 0x48 ∨ o = 0x49 then 0xFF#8 else 0x00#8 := by
  simp only [Config.resetIo, Memory.read, Memory.blank, eq_comm (b := o), ite_or]

/-- No step is refused: a locked machine faults, any other goes on or faults at an illegal opcode. -/
theorem step_ne_refused (s : State) (r : Refusal) : step s ≠ .refused r := by
  intro h
  cases hlocked : s.locked with
  | true =>
    rw [step_eq_thenDevices, cpuStep_locked hlocked] at h
    cases h
  | false =>
    rcases stepStopsOnlyAtIllegal s hlocked with ⟨t, hnext⟩ | ⟨op, left, -, -, hfault⟩
    · rw [hnext] at h
      cases h
    · rw [hfault] at h
      cases h

end Sys2Proof.Machine

namespace Sys2Proof.Claims

open Sys2Proof.Machine

@[simp] theorem spent_nil : spent [] = 0 := rfl

@[simp] theorem spent_cons (t : State) (ts : List State) : spent (t :: ts) = t.stepCost + spent ts := rfl

/-! A chain of system steps: its costs (R331), and `cycles` after it (R330). -/

section chain

variable {s t : State} {ts : List State} (h : Chain s ts t)
include h

theorem Chain.isCost : ∀ u ∈ ts, IsCost u.stepCost := by
  induction h with
  | nil => simp
  | cons hstep _ ih =>
    obtain ⟨v, -, rfl, -, hcost⟩ := step_next hstep
    exact List.forall_mem_cons.mpr ⟨hcost, ih⟩

theorem Chain.cycles : t.cycles = s.cycles + BitVec.ofNat 32 (spent ts) := by
  induction h with
  | nil => simp
  | cons hstep _ ih =>
    obtain ⟨v, -, rfl, htouch, -⟩ := step_next hstep
    have hcycles : (deviceStep v).cycles = v.cycles + BitVec.ofNat 32 (deviceStep v).stepCost := rfl
    rw [ih, hcycles, htouch.cycles, spent_cons, BitVec.ofNat_add, BitVec.add_assoc]

end chain

section spent

variable {ts : List State} (h : ∀ u ∈ ts, IsCost u.stepCost)
include h

/-- A chain takes whole machine cycles, at least one in every step. -/
theorem four_dvd_spent_and_le : 4 ∣ spent ts ∧ 4 * ts.length ≤ spent ts := by
  induction ts with
  | nil => simp
  | cons t ts ih =>
    obtain ⟨hcost, hrest⟩ := List.forall_mem_cons.mp h
    have := ih hrest
    simp only [spent_cons, List.length_cons]
    omega

/-- The last step costs at most 24. -/
theorem spent_le_dropLast_add : spent ts ≤ spent ts.dropLast + 24 := by
  rcases List.eq_nil_or_concat ts with rfl | ⟨us, u, rfl⟩
  · simp
  · have hcost : IsCost u.stepCost := h u (by simp)
    simp only [List.concat_eq_append, List.dropLast_concat, spent, List.map_append, List.sum_append, List.map_singleton,
      List.sum_singleton]
    omega

theorem four_dvd_spent_dropLast : 4 ∣ spent ts.dropLast :=
  (four_dvd_spent_and_le fun u hu => h u (List.mem_of_mem_dropLast hu)).1

end spent

end Sys2Proof.Claims

namespace Sys2Proof.Machine

open Sys2Proof.Claims

/-! The loop of `run_frame()` from a count `n`. -/

section frameLoop

variable {fuel n : Nat} {vb : Bool} {s : State}

/-- A loop that answers has taken a chain whose steps all begin below the budget, up to the budget or to its last round. -/
theorem frameLoop_next {t : State} {v : Bool} (h : frameLoop fuel n vb s = .next (t, v)) :
    ∃ ts, Chain s ts t ∧ v = (vb || ts.any fun u => u.frameReady)
      ∧ (ts ≠ [] → n + spent ts.dropLast < Config.frameCycles)
      ∧ (Config.frameCycles ≤ n + spent ts ∨ ts.length = fuel) := by
  induction fuel generalizing n vb s with
  | zero =>
    cases h
    exact ⟨[], .nil _, by simp, by simp, .inr rfl⟩
  | succ fuel ih =>
    rw [frameLoop] at h
    split at h
    next hbelow =>
      split at h
      next u hstep =>
        obtain ⟨ts, hchain, hready, hbefore, hend⟩ := ih h
        refine ⟨u :: ts, .cons hstep hchain, by rw [hready, List.any_cons, Bool.or_assoc], fun _ => ?_, ?_⟩
        · cases ts with
          | nil => exact hbelow
          | cons w ws =>
            rw [List.dropLast_cons_cons, spent_cons, ← Nat.add_assoc]
            exact hbefore (List.cons_ne_nil w ws)
        · rw [spent_cons, ← Nat.add_assoc, List.length_cons, Nat.add_right_cancel_iff]
          exact hend
      next => cases h
      next => cases h
    next hreached =>
      cases h
      exact ⟨[], .nil _, by simp, by simp, .inl (Nat.le_of_not_lt hreached)⟩

/-- A loop that faults has reached, below the budget, a state whose step is that fault. -/
theorem frameLoop_fault {f : Fault} (h : frameLoop fuel n vb s = .fault f) :
    ∃ ts u, Chain s ts u ∧ n + spent ts < Config.frameCycles ∧ step u = .fault f := by
  induction fuel generalizing n vb s with
  | zero => cases h
  | succ fuel ih =>
    rw [frameLoop] at h
    split at h
    next hbelow =>
      split at h
      next t hstep =>
        obtain ⟨ts, u, hchain, hspent, hfault⟩ := ih h
        exact ⟨t :: ts, u, .cons hstep hchain, by rwa [spent_cons, ← Nat.add_assoc], hfault⟩
      next hstep =>
        cases h
        exact ⟨[], s, .nil s, hbelow, hstep⟩
      next => cases h
    next => cases h

theorem frameLoop_ne_refused (r : Refusal) : frameLoop fuel n vb s ≠ .refused r := by
  induction fuel generalizing n vb s with
  | zero => exact nofun
  | succ fuel ih =>
    rw [frameLoop]
    split
    · split
      next => exact ih
      next => exact nofun
      next r' hstep => exact absurd hstep (step_ne_refused s r')
    · exact nofun

end frameLoop

theorem runFrame_stopped {s : State} (h : s.running = false) : runFrame s = .next (s, false) := by
  rw [runFrame, if_neg (by simp [h])]

theorem runFrame_running {s : State} (h : s.running = true) : runFrame s = frameLoop (Config.frameCycles / 4) 0 false s := by
  rw [runFrame, if_pos h]

end Sys2Proof.Machine

open Sys2Proof Sys2Proof.Machine Sys2Proof.Claims

/-- Settles O55: the fields of `resetState`, and the cells of the default `RESET_IO` (`read_resetIo`). -/
theorem resetState : Obligations.ResetState := by
  unfold Obligations.ResetState
  refine ⟨fun ram s => ?_, rfl, read_resetIo, rfl, rfl, rfl⟩
  simp only [hostReset, Sys2Proof.Machine.resetState, and_self]

/-- Settles O60: each part of the invariant evaluates to true. -/
theorem resetMeetsInvariant : Obligations.ResetMeetsInvariant := by
  unfold Obligations.ResetMeetsInvariant Sys2Proof.Machine.Inv
  decide

/-- Settles O58: every step costs at least 4, so the loop reaches the budget within its rounds; the costs are multiples of 4, so
the last step begins at 70220 or below and ends at 70244 or below. -/
theorem runFrameBudget : Obligations.RunFrameBudget := by
  unfold Obligations.RunFrameBudget
  intro s
  refine ⟨runFrame_stopped, fun hrunning => ?_⟩
  rw [runFrame_running hrunning]
  refine ⟨fun t vb hnext => ?_, fun f hfault => ?_, fun r => frameLoop_ne_refused r⟩
  · obtain ⟨ts, hchain, hready, hbefore, hend⟩ := frameLoop_next hnext
    simp only [Config.frameCycles, Nat.zero_add] at hbefore hend
    obtain ⟨-, hlength⟩ := four_dvd_spent_and_le hchain.isCost
    have hreached : 70224 ≤ spent ts := by omega
    have hbelow : spent ts.dropLast < 70224 := hbefore (by rintro rfl; simp at hreached)
    have hdvd := four_dvd_spent_dropLast hchain.isCost
    have hlast := spent_le_dropLast_add hchain.isCost
    exact ⟨ts, hchain, hreached, by omega, hbelow, hready, hchain.cycles⟩
  · obtain ⟨ts, u, hchain, hspent, hstep⟩ := frameLoop_fault hfault
    rw [Nat.zero_add] at hspent
    exact ⟨ts, u, hchain, hspent, hstep⟩
end
